-- ==== Sys2Proof/Word.lean ====
section
/-! DEFINITION. The words of the machine (00_scope.md R5, R6): an 8-bit register or memory cell and a
16-bit address, program counter or stack pointer. -/

namespace Sys2Proof

/-- An 8-bit value: a general register or a memory cell (R5 `XLEN8`, R60). -/
abbrev Byte := BitVec 8

/-- A 16-bit value: an address, `pc`, `sp` or a register pair (R5 `ALEN`). -/
abbrev Word := BitVec 16

end Sys2Proof
end

