-- ==== Sys2Proof/Machine/Bits.lean ====
section
/-! DEFINITION. Bit fields, byte order and sign extension (00_scope.md R6, 20_memory.md R80). -/

namespace Sys2Proof.Machine

/-- Bit `i` of `v` (R6). -/
def bit {w : Nat} (v : BitVec w) (i : Nat) : Bool := v.getLsbD i

/-- `v[7:0]` of a 16-bit value (R6). -/
def lowByte (v : Word) : Byte := v.setWidth 8

/-- `v[15:8]` of a 16-bit value (R6). -/
def highByte (v : Word) : Byte := (v >>> 8).setWidth 8

/-- `hi : lo` (R6); a 16-bit immediate or stack slot has its low byte at the lower address (R80). -/
def join (hi lo : Byte) : Word := hi ++ lo

/-- `sext_16(v)` (R6). -/
def sext16 (v : Byte) : Word := v.signExtend 16

/-- `zext_16(v)` (R6). -/
def zext16 (v : Byte) : Word := v.setWidth 16

/-- A Boolean as a number. -/
def boolNat (b : Bool) : Nat := if b then 1 else 0

/-- A Boolean as one bit of a byte, shifted to position `i`. -/
def flagAt (b : Bool) (i : Nat) : Byte := if b then (1 : Byte) <<< i else 0

end Sys2Proof.Machine
end

