-- ==== Sys2Proof/Config.lean ====
section
/-! DEFINITION. The implementation parameters of 00_scope.md R5, all of them fields of `Config`, which State
carries and no step changes: a statement over all states holds for every choice of them. `Config.default` has
the spec's defaults. A parameter marked OPEN has none: its default here is an opaque constant, which nothing can
evaluate or prove a value of; so is a value the spec leaves open. The two inputs of R5, `buttons` and
`IRQ3_LINE`, and `RESET_RAM` are in Machine/State.lean; `XLEN8`, `ALEN` and `FILL` are fixed. -/

namespace Sys2Proof

/-- `REV` (R5, decision D2). -/
inductive Revision where
  | dmg | cgb
deriving DecidableEq, Repr

/-- `MBC_FAMILY` (R5, R94). An unrecognised family code has no constructor: `powerOn` refuses it (R105). -/
inductive MbcFamily where
  | none | simple | rtc | wide9 | multicart
deriving DecidableEq, Repr

/-- `BOOT` (R5, decisions D8 and D9). -/
inductive BootMode where
  | skip | rom
deriving DecidableEq, Repr

/-- `HALT_BUG_SCOPE` (R5, R296, decision D17). -/
inductive HaltBugScope where
  | anyWakeWithIme0 | onlyIfPendingAtHalt
deriving DecidableEq, Repr

/-- `TIMER_EDGE` (R5, R333, decision D20). -/
inductive TimerEdge where
  | rising | falling
deriving DecidableEq, Repr

/-- The parameters of the launch that the step relation takes (R5, R34). -/
structure Config where
  /-- `REV`. -/
  rev : Revision
  /-- `MBC_FAMILY`. -/
  family : MbcFamily
  /-- `ROM_BANKS`, 16 KiB banks of the cartridge image. -/
  romBanks : Nat
  /-- `RAM_BANKS`, 8 KiB banks of external RAM. -/
  ramBanks : Nat
  /-- `MC_INNER_BITS` (R101). -/
  mcInnerBits : Nat
  /-- `BOOT`; read only by `powerOn`. -/
  boot : BootMode
  /-- `TCYC_PER_STEP`, master-clock periods per machine cycle at single speed (decision D10). -/
  tcycPerStep : Nat
  /-- `PPU_D1`, dots of `search` (R385). -/
  ppuD1 : Nat
  /-- `PPU_D2`, dots of `transfer` (R385). -/
  ppuD2 : Nat
  /-- `PPU_LINE_DOTS` (R385). -/
  ppuLineDots : Nat
  /-- `PPU_VISIBLE_LINES` (R385). -/
  ppuVisibleLines : Nat
  /-- `PPU_TOTAL_LINES` (R385). -/
  ppuTotalLines : Nat
  /-- `PPU_REENTRY_OFFSET` (R397). -/
  ppuReentryOffset : Nat
  /-- `IRQ_ENTRY_CYCLES` (R320, decision D13). -/
  irqEntryCycles : Nat
  /-- `HALT_BUG_SCOPE`. -/
  haltBugScope : HaltBugScope
  /-- `STOP_LENGTH`, the bytes `STOP` occupies (R139, R297). -/
  stopLength : Nat
  /-- `TIMER_EDGE`. -/
  timerEdge : TimerEdge
  /-- `HDMA_BYTES_PER_CYCLE` (R344). -/
  hdmaBytesPerCycle : Nat
  /-- `FS_PERIOD`, single-speed machine cycles between frame-sequencer ticks (R430). -/
  fsPeriod : Nat
  /-- The registers of `APU_OFF_KEEP`, by low address byte, 0x10 to 0x26 (R439, decision D28). -/
  apuOffKeep : List Nat
  /-- Whether the wave pattern is in `APU_OFF_KEEP` on this revision (R439). -/
  keepWave : Bool
  /-- `SAMPLE_RATE` (R438, R443, decision D29). -/
  sampleRate : Nat
  /-- `LP_HZ`, the corner frequency of the low-pass filter (R438). -/
  lpHz : Rat
  /-- `HP_HZ`, the corner frequency of the high-pass filter (R438). -/
  hpHz : Rat
deriving DecidableEq, Repr

namespace Config

/-- The default of `SAMPLE_RATE`: OPEN (R5), so no value is chosen. -/
opaque openSampleRate : Nat

/-- The default of `LP_HZ`: OPEN (R5). -/
opaque openLpHz : Rat

/-- The default of `HP_HZ`: OPEN (R5). -/
opaque openHpHz : Rat

/-- Every parameter at the spec's default (R5). -/
def default : Config where
  rev := .dmg
  family := .none
  romBanks := 2
  ramBanks := 0
  mcInnerBits := 4
  boot := .skip
  tcycPerStep := 4
  ppuD1 := 80
  ppuD2 := 172
  ppuLineDots := 456
  ppuVisibleLines := 144
  ppuTotalLines := 154
  ppuReentryOffset := 0
  irqEntryCycles := 5
  haltBugScope := .anyWakeWithIme0
  stopLength := 2
  timerEdge := .rising
  hdmaBytesPerCycle := 2
  fsPeriod := 2048
  apuOffKeep := [0x25, 0x26]
  keepWave := true
  sampleRate := openSampleRate
  lpHz := openLpHz
  hpHz := openHpHz

/-- `FILL`, what an unmapped or disabled region reads as (R65). -/
def fill : Byte := 0xFF

/-- `MASTER_HZ` (R443). -/
def masterHz : Nat := 4194304

/-- Free value: how the arithmetic that derives the filter coefficients rounds the number "pi" of R438, for which
the spec gives no precision (log 19). -/
opaque piRounding : Rat

/-- The number "pi" of R438, to 20 decimals, but for a rounding of at most 1 in the seventh decimal, which
single precision and everything finer meet (DESIGN CHOICE, log 19). -/
def pi : Rat := 314159265358979323846 / 10 ^ 20 + max (-1) (min 1 piRounding) / 10 ^ 7

/-- Free value: the row of sprite `i` that is drawn on line `ly` when its `Y` byte was rewritten after
`search` selected it, so that `LY + 16 - Y` is no row of it; the spec states no pixel for that. -/
opaque staleSpriteRow : (i ly y : Nat) → Nat

end Config

end Sys2Proof
end

