-- ==== Sys2Proof/Machine/State.lean ====
section
/-! DEFINITION. Everything the spec gives the machine, as plain data (10_state.md R10 to R37), and
`powerOn`, its only reset (R36, 70_reset_and_hazards.md R460 to R463, R476). -/

namespace Sys2Proof.Machine

/-- A sparse array of `w`-bit cells: pairs of an index and a value, indexes strictly rising, no value
equal to what an unlisted index reads as. -/
abbrev Cells (w : Nat) := List (Nat × BitVec w)

/-- A sparse byte array, the one form of every storage region (R30); an unlisted cell reads as 0x00. -/
abbrev Memory := List Host.Cell

/-- The processor register file (R10 to R15). `f` holds the four flags in bits 7 to 4. -/
structure Regs where
  a : Byte
  f : Byte
  b : Byte
  c : Byte
  d : Byte
  e : Byte
  h : Byte
  l : Byte
  sp : Word
  pc : Word
deriving DecidableEq, Repr

/-- The five states of the processor's state machine (R17, R143). -/
inductive CpuState where
  | fetchingOpcode | executingPrimitiveSequence | servicingInterrupt | halted | stopped
deriving DecidableEq, Repr

/-- The processor's control state (R16 to R21). -/
structure Cpu where
  /-- `IME`, the global interrupt-enable flag (R16). -/
  ime : Bool
  /-- `ime_pending`, the enable latency of `EI` (R16). -/
  imePending : Bool
  /-- `cpu_state` (R17). -/
  cpuState : CpuState
  /-- `halt_bug`: the next opcode fetch does not advance `pc` (R19). -/
  haltBug : Bool
  /-- `cpu_fault`, set by `raise UnsupportedOpcode` (R21). -/
  cpuFault : Bool
  /-- `double_speed`, the clock multiplier, CGB only (R20). -/
  doubleSpeed : Bool
  /-- `speed_armed`, bit 0 of KEY1, CGB only (R20). -/
  speedArmed : Bool
  /-- `ir`, the opcode being executed (R18). -/
  ir : Byte
  /-- `cb`, set when the opcode came after the 0xCB prefix (R18). -/
  cb : Bool
  /-- `useq`, the index `cb : ir` of the selected primitive sequence (R18). -/
  useq : BitVec 9
  /-- `upos`, the index of the next primitive in it (R18). -/
  upos : Nat
  /-- `tmp8`, the 8-bit temp of the primitives (R18). -/
  tmp8 : Byte
  /-- `tmp16`, the 16-bit temp of the primitives (R18). -/
  tmp16 : Word
deriving DecidableEq, Repr

/-- The Interrupt Controller: the implemented bits 4 to 0 of `IE` and `IF` (R22, R314, R315). -/
structure Irq where
  ie : BitVec 5
  flags : BitVec 5
deriving DecidableEq, Repr

/-- `tima_reload` (R23). -/
inductive TimaReload where
  | idle | pending | reloaded
deriving DecidableEq, Repr

/-- Timer state (R23). -/
structure Timer where
  divider : BitVec 16
  tima : Byte
  tma : Byte
  tac : BitVec 3
  reload : TimaReload
  /-- `timer_bit_prev`, the last sampled gated divider bit (R23). -/
  bitPrev : Bool
deriving DecidableEq, Repr

/-- `hdma_mode` (R24). -/
inductive HdmaMode where
  | general | hblank
deriving DecidableEq, Repr

/-- DMA state (R24) and the stall flag it writes (R20). -/
structure Dma where
  /-- `oam_dma_src`, the last value written to DMA. -/
  oamDmaSrc : Byte
  hdmaSrc : BitVec 16
  hdmaDst : BitVec 16
  /-- `hdma_blocks`, 16-byte blocks remaining minus one. -/
  hdmaBlocks : BitVec 7
  hdmaMode : HdmaMode
  hdmaActive : Bool
  /-- `hdma_block_left`, bytes remaining in the block being copied. -/
  hdmaBlockLeft : BitVec 5
  /-- `cpu_stall`. -/
  cpuStall : Bool
deriving DecidableEq, Repr

/-- The PPU modes; their STAT numbers are 2, 3, 0, 1 (R25, R382). -/
inductive PpuMode where
  | search | transfer | hblank | vblank
deriving DecidableEq, Repr

/-- A palette pointer register: a 6-bit index and the auto-increment bit (R26, R402). -/
structure PalettePtr where
  index : BitVec 6
  autoInc : Bool
deriving DecidableEq, Repr

/-- Pixel-Pipeline state, its registers, palettes and framebuffer (R25 to R27). -/
structure Ppu where
  /-- `dot`, dots since the start of the line. -/
  dot : Nat
  /-- `LY`, the scanline counter. -/
  ly : BitVec 8
  mode : PpuMode
  lyc : Byte
  /-- `line_sprites`, at most ten object-table indices, in table order. -/
  lineSprites : List Nat
  /-- `lx`, the horizontal dot counter. -/
  lx : Nat
  /-- `win_line`, the window's own line counter. -/
  winLine : Nat
  /-- Whether the window condition held for a pixel of this line (R390). -/
  winDrawn : Bool
  /-- `lyc_match`, STAT bit 2. -/
  lycMatch : Bool
  /-- `frame_done` (R404). -/
  frameDone : Bool
  lcdc : Byte
  /-- STAT bits 6 to 3, the interrupt masks. -/
  statMask : BitVec 4
  scy : Byte
  scx : Byte
  wy : Byte
  wx : Byte
  bgp : Byte
  obp0 : Byte
  obp1 : Byte
  /-- `BCPS`. -/
  bcps : PalettePtr
  /-- `OCPS`. -/
  ocps : PalettePtr
  /-- `bg_pal`, 64 bytes. -/
  bgPal : Memory
  /-- `obj_pal`, 64 bytes. -/
  objPal : Memory
  /-- `framebuffer[line][column]` at index `160 * line + column` (R27, R401). -/
  framebuffer : Cells 15
deriving DecidableEq, Repr

/-- The envelope of a channel (R28). The 3-bit divider holds the load of 8 as 0. -/
structure Envelope where
  start : BitVec 4
  up : Bool
  period : BitVec 3
  div : BitVec 3
  vol : BitVec 4
deriving DecidableEq, Repr

/-- A length counter of `w` bits (R28). The rules load 2^`w` into it and tell that from an expired 0 (R422 to R424,
R431, R434); `full` is the one bit more that this takes. -/
structure Length (w : Nat) where
  /-- `ch[k].length`, its `w` bits. -/
  count : BitVec w
  /-- Whether it holds 2^`w`; `count` is then 0. -/
  full : Bool
deriving DecidableEq, Repr

/-- A pulse channel (R28). -/
structure Pulse where
  enabled : Bool
  dac : Bool
  duty : BitVec 2
  freq : BitVec 11
  timer : Nat
  phase : BitVec 3
  length : Length 6
  lengthEn : Bool
  env : Envelope
deriving DecidableEq, Repr

/-- The frequency-sweep unit of channel 1 (R28). The 3-bit divider holds the load of 8 as 0. -/
structure Sweep where
  period : BitVec 3
  neg : Bool
  shift : BitVec 3
  div : BitVec 3
  shadow : BitVec 11
  en : Bool
  negUsed : Bool
deriving DecidableEq, Repr

/-- The wave channel with its sample buffer and `wave_ram` (R28). Its envelope fields are the rule's; no register
writes them and no output reads them, and a trigger reloads them as in every channel (R434). -/
structure Wave where
  enabled : Bool
  dac : Bool
  freq : BitVec 11
  timer : Nat
  phase : BitVec 5
  length : Length 8
  lengthEn : Bool
  env : Envelope
  code : BitVec 2
  buffer : Byte
  ram : Memory
deriving DecidableEq, Repr

/-- The noise channel (R28). -/
structure Noise where
  enabled : Bool
  dac : Bool
  shift : BitVec 4
  width : Bool
  divisor : BitVec 3
  timer : Nat
  lfsr : BitVec 15
  length : Length 6
  lengthEn : Bool
  env : Envelope
deriving DecidableEq, Repr

/-- The Sound Channel Mixer's channels and shared state (R28, R29). -/
structure Apu where
  /-- `apu_on`. -/
  on : Bool
  ch1 : Pulse
  sweep : Sweep
  ch2 : Pulse
  ch3 : Wave
  ch4 : Noise
  nr50 : Byte
  nr51 : Byte
  /-- `fs_step`. -/
  fsStep : BitVec 3
  /-- `fs_timer`, the down-counter that clocks it (R443). -/
  fsTimer : Int
deriving DecidableEq, Repr

/-- The sample clock, the two filter memories of each side and the output buffer (R29, R438, R442). -/
structure Audio where
  sampleTimer : Nat
  lpLeft : Rat
  hpLeft : Rat
  lpRight : Rat
  hpRight : Rat
  /-- (left, right) pairs, oldest first. -/
  out : List (Rat × Rat)
deriving DecidableEq, Repr

/-- The storage regions (R30). -/
structure Store where
  rom : Memory
  bootRom : Memory
  vram : Memory
  extRam : Memory
  wram : Memory
  oam : Memory
  hram : Memory
deriving DecidableEq, Repr

/-- Router state that selects handlers (R31). -/
structure Router where
  bootMapped : Bool
  vramBank : BitVec 1
  wramBank : BitVec 3
deriving DecidableEq, Repr

/-- The five bytes of the real-time clock (R32). -/
structure Rtc where
  seconds : Byte
  minutes : Byte
  hours : Byte
  dayLow : Byte
  dayHigh : Byte
deriving DecidableEq, Repr

/-- Bank Controller state of all families (R32, R97, R99 to R101). -/
structure Cart where
  romBank : BitVec 9
  ramBank : BitVec 4
  ramEnable : Bool
  mbcMode : Bool
  lo5 : BitVec 5
  hi2 : BitVec 2
  mcInner : BitVec 5
  mcOuter : BitVec 2
  rtcSelect : BitVec 4
  rtcLatchPrev : Byte
  rtcLive : Rtc
  rtcLatched : Rtc
  rtcTimestamp : Nat
deriving DecidableEq, Repr

/-- The input register's select lines, the edge detector and the serial registers (R33). -/
structure Pad where
  /-- P1 bit 5. -/
  selAction : Bool
  /-- P1 bit 4. -/
  selDirection : Bool
  joyPrev : BitVec 4
  sb : Byte
  sc : Byte
deriving DecidableEq, Repr

/-- What the host may do between two ticks (R477, R478, R99, R34). -/
inductive InputAction where
  /-- The eight button lines, 1 = pressed: bits 0 to 3 Right, Left, Up, Down, bits 4 to 7 A, B, Select, Start. -/
  | setButtons (b : BitVec 8)
  /-- The level of `IRQ3_LINE`. -/
  | setIrq3Line (b : Bool)
  /-- The wall clock advances `rtc_live`. -/
  | setClock (live : Rtc) (timestamp : Nat)
  /-- `frame_is_complete()` returns and clears `frame_done`. -/
  | takeFrame
  /-- The audio buffer is drained. -/
  | drainAudio
deriving DecidableEq, Repr

/-- The input lines and the host's pending actions, each with the ticks to wait before it. -/
structure Inputs where
  buttons : BitVec 8
  irq3Line : Bool
  script : List (Nat × InputAction)
deriving DecidableEq, Repr

structure State where
  cfg : Config
  regs : Regs
  cpu : Cpu
  irq : Irq
  timer : Timer
  dma : Dma
  ppu : Ppu
  apu : Apu
  audio : Audio
  store : Store
  router : Router
  cart : Cart
  pad : Pad
  inputs : Inputs
deriving DecidableEq, Repr

/-- Why a step stops the machine. -/
inductive Fault where
  /-- Raised by `step` in every state whose `cpu_fault` is set, that is after an undefined opcode was
  fetched (R311, R301): `step()` returns false now and ever after. Safe: the machine stops as the spec says. -/
  | unsupportedOpcode (op : Byte)
deriving DecidableEq, Repr

/-- Why a step or a launch has no meaning. -/
inductive Refusal where
  /-- Raised only by an arm of `exec` whose instruction has no meaning in this model yet. Safe. -/
  | notModelled (mnemonic : String)
  /-- Raised by `powerOn` for an unrecognised bank-controller family (R105, R476). Safe: the core never starts. -/
  | unrecognisedController
deriving DecidableEq, Repr

/-- What a meaning answers: a next state, a fault or a refusal. -/
abbrev Answer := Host.Outcome State Fault Refusal

/-- The cartridge image contract and the boot image (R476, R34), as byte arrays. -/
structure Cartridge where
  rom : Memory
  bootRom : Memory
deriving DecidableEq, Repr

/-- The persistent save contract (R104, R479): what a host keeps across `power_on`. -/
structure Persistent where
  extRam : Memory
  rtcLive : Rtc
  rtcLatched : Rtc
  rtcTimestamp : Nat
deriving DecidableEq, Repr

/-- What `power_on` leaves unspecified (R36, R37): a value chosen at the launch and fixed afterwards. -/
structure Unspecified where
  /-- The registers with `BOOT = ROM`; `pc` and the low nibble of `f` are not taken from here. -/
  regs : Regs
  /-- The divider on `CGB`. -/
  divider : BitVec 16
  /-- `oam_dma_src` with `BOOT = ROM`. -/
  oamDmaSrc : Byte
  hdmaSrc : BitVec 16
  hdmaDst : BitVec 16
  obp0 : Byte
  obp1 : Byte
  bcps : PalettePtr
  ocps : PalettePtr
  bgPal : Memory
  objPal : Memory
  waveRam : Memory
  /-- `RESET_RAM` (R5), region by region. -/
  vram : Memory
  wram : Memory
  oam : Memory
  hram : Memory
deriving DecidableEq, Repr

/-- A clock block with every byte 0 (R36, `rtc_*` without a save). -/
def Rtc.zero : Rtc where
  seconds := 0
  minutes := 0
  hours := 0
  dayLow := 0
  dayHigh := 0

/-- No save: external RAM lists nothing and the clock is 0 (R36). -/
def Persistent.none : Persistent where
  extRam := []
  rtcLive := Rtc.zero
  rtcLatched := Rtc.zero
  rtcTimestamp := 0

/-- A register file with every register 0. -/
def Regs.zero : Regs where
  a := 0
  f := 0
  b := 0
  c := 0
  d := 0
  e := 0
  h := 0
  l := 0
  sp := 0
  pc := 0

/-- A palette pointer at index 0 without auto-increment. -/
def PalettePtr.zero : PalettePtr where
  index := 0
  autoInc := false

/-- The choice of 0 for everything unspecified. -/
def Unspecified.zero : Unspecified where
  regs := Regs.zero
  divider := 0
  oamDmaSrc := 0
  hdmaSrc := 0
  hdmaDst := 0
  obp0 := 0
  obp1 := 0
  bcps := PalettePtr.zero
  ocps := PalettePtr.zero
  bgPal := []
  objPal := []
  waveRam := []
  vram := []
  wram := []
  oam := []
  hram := []

/-- The register file after `power_on` (R36). `BOOT = ROM` fixes `pc` and the low nibble of `F`. -/
def Regs.initial (cfg : Config) (u : Unspecified) : Regs :=
  match cfg.boot, cfg.rev with
  | .skip, .dmg =>
    { a := 0x01, f := 0xB0, b := 0x00, c := 0x13, d := 0x00, e := 0xD8, h := 0x01, l := 0x4D
      sp := 0xFFFE, pc := 0x0100 }
  | .skip, .cgb =>
    { a := 0x11, f := 0x80, b := 0x00, c := 0x00, d := 0xFF, e := 0x56, h := 0x00, l := 0x0D
      sp := 0xFFFE, pc := 0x0100 }
  | .rom, _ => { u.regs with f := u.regs.f &&& 0xF0, pc := 0x0000 }

/-- The processor's control state after `power_on` (R36, R463). -/
def Cpu.initial : Cpu where
  ime := false
  imePending := false
  cpuState := .fetchingOpcode
  haltBug := false
  cpuFault := false
  doubleSpeed := false
  speedArmed := false
  ir := 0
  cb := false
  useq := 0
  upos := 0
  tmp8 := 0
  tmp16 := 0

/-- The interrupt registers after `power_on` (R36). -/
def Irq.initial (cfg : Config) : Irq where
  ie := 0
  flags := match cfg.boot with
    | .skip => 0x01
    | .rom => 0

/-- The timer after `power_on` (R36). -/
def Timer.initial (cfg : Config) (u : Unspecified) : Timer where
  divider := match cfg.boot, cfg.rev with
    | .skip, .dmg => 0xABCC
    | .skip, .cgb => u.divider
    | .rom, _ => 0
  tima := 0
  tma := 0
  tac := 0
  reload := .idle
  bitPrev := false

/-- The DMA engines after `power_on` (R36): HDMA inactive with HDMA5 reading 0xFF. -/
def Dma.initial (cfg : Config) (u : Unspecified) : Dma where
  oamDmaSrc := match cfg.boot, cfg.rev with
    | .skip, .dmg => 0xFF
    | .skip, .cgb => 0x00
    | .rom, _ => u.oamDmaSrc
  hdmaSrc := u.hdmaSrc
  hdmaDst := u.hdmaDst
  hdmaBlocks := 0x7F
  hdmaMode := .general
  hdmaActive := false
  hdmaBlockLeft := 0
  cpuStall := false

/-- The PPU after `power_on` (R36). -/
def Ppu.initial (cfg : Config) (u : Unspecified) : Ppu where
  dot := 0
  ly := 0
  mode := .search
  lyc := 0
  lineSprites := []
  lx := 0
  winLine := 0
  winDrawn := false
  lycMatch := match cfg.boot with
    | .skip => true
    | .rom => false
  frameDone := false
  lcdc := match cfg.boot with
    | .skip => 0x91
    | .rom => 0x00
  statMask := 0
  scy := 0
  scx := 0
  wy := 0
  wx := 0
  bgp := match cfg.boot with
    | .skip => 0xFC
    | .rom => 0x00
  obp0 := u.obp0
  obp1 := u.obp1
  bcps := u.bcps
  ocps := u.ocps
  bgPal := u.bgPal
  objPal := u.objPal
  framebuffer := []

/-- An envelope with every field 0. -/
def Envelope.zero : Envelope where
  start := 0
  up := false
  period := 0
  div := 0
  vol := 0

/-- An expired length counter. -/
def Length.zero {w : Nat} : Length w where
  count := 0
  full := false

/-- A pulse channel with every field 0. -/
def Pulse.zero : Pulse where
  enabled := false
  dac := false
  duty := 0
  freq := 0
  timer := 0
  phase := 0
  length := Length.zero
  lengthEn := false
  env := Envelope.zero

/-- A sweep unit with every field 0. -/
def Sweep.zero : Sweep where
  period := 0
  neg := false
  shift := 0
  div := 0
  shadow := 0
  en := false
  negUsed := false

/-- A wave channel with every field 0 and the pattern `ram`. -/
def Wave.zero (ram : Memory) : Wave where
  enabled := false
  dac := false
  freq := 0
  timer := 0
  phase := 0
  length := Length.zero
  lengthEn := false
  env := Envelope.zero
  code := 0
  buffer := 0
  ram := ram

/-- A noise channel with every field 0. -/
def Noise.zero : Noise where
  enabled := false
  dac := false
  shift := 0
  width := false
  divisor := 0
  timer := 0
  lfsr := 0
  length := Length.zero
  lengthEn := false
  env := Envelope.zero

/-- The APU after `power_on` (R36, the reset column of R35): with `BOOT = SKIP` sound is on and channel
1 enabled with NR11 = 0xBF and NR12 = 0xF3; with `BOOT = ROM` everything is 0. -/
def Apu.initial (cfg : Config) (u : Unspecified) : Apu :=
  match cfg.boot with
  | .skip =>
    { on := true
      ch1 := { Pulse.zero with
        enabled := true, dac := true, duty := 2
        env := { start := 15, up := false, period := 3, div := 0, vol := 0 } }
      sweep := Sweep.zero
      ch2 := Pulse.zero
      ch3 := Wave.zero u.waveRam
      ch4 := Noise.zero
      nr50 := 0x77
      nr51 := 0xF3
      fsStep := 0
      fsTimer := 0 }
  | .rom =>
    { on := false
      ch1 := Pulse.zero
      sweep := Sweep.zero
      ch2 := Pulse.zero
      ch3 := Wave.zero u.waveRam
      ch4 := Noise.zero
      nr50 := 0
      nr51 := 0
      fsStep := 0
      fsTimer := 0 }

/-- Filter memories and the sample timer 0, the buffer empty (R36). -/
def Audio.initial : Audio where
  sampleTimer := 0
  lpLeft := 0
  hpLeft := 0
  lpRight := 0
  hpRight := 0
  out := []

/-- The images as given, external RAM from the save (R36, R460). -/
def Store.initial (cart : Cartridge) (save : Persistent) (u : Unspecified) : Store where
  rom := cart.rom
  bootRom := cart.bootRom
  vram := u.vram
  extRam := save.extRam
  wram := u.wram
  oam := u.oam
  hram := u.hram

/-- Router state after `power_on` (R36). -/
def Router.initial (cfg : Config) : Router where
  bootMapped := match cfg.boot with
    | .skip => false
    | .rom => true
  vramBank := 0
  wramBank := 1

/-- Bank Controller state after `power_on` (R36): ROM bank 1, RAM bank 0, RAM disabled. -/
def Cart.initial (save : Persistent) : Cart where
  romBank := 1
  ramBank := 0
  ramEnable := false
  mbcMode := false
  lo5 := 1
  hi2 := 0
  mcInner := 1
  mcOuter := 0
  rtcSelect := 0
  rtcLatchPrev := 0
  rtcLive := save.rtcLive
  rtcLatched := save.rtcLatched
  rtcTimestamp := save.rtcTimestamp

/-- Input and serial registers after `power_on` (R36, R463). -/
def Pad.initial (cfg : Config) : Pad where
  selAction := match cfg.boot with
    | .skip => false
    | .rom => true
  selDirection := match cfg.boot with
    | .skip => false
    | .rom => true
  joyPrev := 0xF
  sb := 0
  sc := 0

/-- No button pressed, `IRQ3_LINE` not asserted, no action pending (R5). -/
def Inputs.initial : Inputs where
  buttons := 0
  irq3Line := false
  script := []

/-- The state `power_on` leaves for a recognised family (R36, R460 to R463). -/
def State.initial (cfg : Config) (cart : Cartridge) (save : Persistent) (u : Unspecified) : State where
  cfg := cfg
  regs := Regs.initial cfg u
  cpu := Cpu.initial
  irq := Irq.initial cfg
  timer := Timer.initial cfg u
  dma := Dma.initial cfg u
  ppu := Ppu.initial cfg u
  apu := Apu.initial cfg u
  audio := Audio.initial
  store := Store.initial cart save u
  router := Router.initial cfg
  cart := Cart.initial save
  pad := Pad.initial cfg
  inputs := Inputs.initial

/-- `power_on(cartridge)` (R460, R476): an unrecognised family code, `none`, is refused before the core
starts (R105). -/
def powerOn (family : Option MbcFamily) (cfg : Config) (cart : Cartridge) (save : Persistent)
    (u : Unspecified) : Host.Outcome State Fault Refusal :=
  match family with
  | some fam => .next (State.initial { cfg with family := fam } cart save u)
  | none => .refused .unrecognisedController

/-- The persistence buffers of a state (R104, R479). -/
def State.persistent (s : State) : Persistent where
  extRam := s.store.extRam
  rtcLive := s.cart.rtcLive
  rtcLatched := s.cart.rtcLatched
  rtcTimestamp := s.cart.rtcTimestamp

/-- The machine right after `power_on` with every parameter at its default, no image, no save, and 0 for
what is unspecified. -/
def State.reset : State :=
  State.initial Config.default { rom := [], bootRom := [] } Persistent.none Unspecified.zero

end Sys2Proof.Machine
end

