-- ==== Sys2Proof/Machine/Cells.lean ====
section
/-! DEFINITION. Reading and writing a sparse array of cells, and its canonical form. Every storage region
of R30, the palettes, the wave pattern and the framebuffer are held this way. -/

namespace Sys2Proof.Machine

/-- The value at index `k`; an unlisted index reads as 0. -/
def cellRead {w : Nat} : Cells w → Nat → BitVec w
  | [], _ => 0#w
  | (k, v) :: rest, i => if i = k then v else cellRead rest i

/-- Store `v` at index `i`, keeping indexes rising and listing no 0. -/
def cellWrite {w : Nat} : Cells w → Nat → BitVec w → Cells w
  | [], i, v => if v = 0#w then [] else [(i, v)]
  | (k, u) :: rest, i, v =>
    if i < k then
      if v = 0#w then (k, u) :: rest else (i, v) :: (k, u) :: rest
    else if i = k then
      if v = 0#w then rest else (i, v) :: rest
    else (k, u) :: cellWrite rest i v

/-- Every index of the list is above `lo`, indexes strictly rise, and no listed value is 0. -/
def cellsFrom {w : Nat} (lo : Nat) : Cells w → Bool
  | [] => true
  | (k, v) :: rest => decide (lo ≤ k) && decide (v ≠ 0#w) && cellsFrom (k + 1) rest

/-- The canonical form of an array of cells: equal arrays are equal lists. -/
def cellsWf {w : Nat} (m : Cells w) : Bool := cellsFrom 0 m

/-- The byte of a region at index `i`. -/
abbrev Memory.read (m : Memory) (i : Nat) : Byte := cellRead (w := 8) m i

/-- The region with `v` stored at index `i`. -/
abbrev Memory.write (m : Memory) (i : Nat) (v : Byte) : Memory := cellWrite (w := 8) m i v

/-- The canonical form of a region. -/
abbrev Memory.wf (m : Memory) : Bool := cellsWf (w := 8) m

/-- Every storage region of the machine is in canonical form. -/
def State.memWf (s : State) : Bool :=
  s.store.rom.wf && s.store.bootRom.wf && s.store.vram.wf && s.store.extRam.wf
    && s.store.wram.wf && s.store.oam.wf && s.store.hram.wf
    && s.apu.ch3.ram.wf && s.ppu.bgPal.wf && s.ppu.objPal.wf && cellsWf s.ppu.framebuffer

end Sys2Proof.Machine
end

