-- ==== Sys2Proof/Machine/ApuUnit.lean ====
section
/-! DEFINITION. The Sound Channel Mixer (61_devices_ppu_apu.md R420 to R443). -/

namespace Sys2Proof.Machine

/-- Frequency-timer period of a pulse channel, in master-clock periods (R426). -/
def pulsePeriod (freq : BitVec 11) : Nat := 4 * (2048 - freq.toNat)

/-- Frequency-timer period of the wave channel (R426). -/
def wavePeriod (freq : BitVec 11) : Nat := 2 * (2048 - freq.toNat)

/-- The divisor table of the noise channel (R426). -/
def noiseDivisor (d : BitVec 3) : Nat := if d = 0 then 8 else 16 * d.toNat

/-- Frequency-timer period of the noise channel (R426). -/
def noisePeriod (c : Noise) : Nat := noiseDivisor c.divisor <<< c.shift.toNat

/-- One master-clock period of a pulse channel's timer (R426, R427). -/
def Pulse.period1 (c : Pulse) : Pulse :=
  if c.timer ≤ 1 then { c with timer := pulsePeriod c.freq, phase := c.phase + 1 }
  else { c with timer := c.timer - 1 }

/-- One master-clock period of the wave channel's timer (R426, R429). -/
def Wave.period1 (c : Wave) : Wave :=
  if c.timer ≤ 1 then
    { c with
      timer := wavePeriod c.freq
      phase := c.phase + 1
      buffer := c.ram.read ((c.phase + 1).toNat / 2) }
  else { c with timer := c.timer - 1 }

/-- One step of the shift register (R428). -/
def lfsrStep (width : Bool) (r : BitVec 15) : BitVec 15 :=
  let b := bit r 0 ^^ bit r 1
  let moved := (r >>> 1) ||| (if b then 0x4000 else 0)
  if width then (moved &&& 0x7FBF) ||| (if b then 0x40 else 0) else moved

/-- One master-clock period of the noise channel's timer; it does not tick when `s >= 14` (R426, R428). -/
def Noise.period1 (c : Noise) : Noise :=
  if 14 ≤ c.shift.toNat then c
  else if c.timer ≤ 1 then { c with timer := noisePeriod c, lfsr := lfsrStep c.width c.lfsr }
  else { c with timer := c.timer - 1 }

/-- `n` repetitions. -/
def times {α : Type} (f : α → α) : Nat → α → α
  | 0, x => x
  | n + 1, x => times f n (f x)

/-- The pattern bit of a duty step (R427). -/
def dutyBit (duty : BitVec 2) (phase : BitVec 3) : Bool :=
  match duty.toNat with
  | 0 => phase.toNat == 7
  | 1 => phase.toNat == 0 || phase.toNat == 7
  | 2 => phase.toNat == 0 || decide (5 ≤ phase.toNat)
  | _ => decide (1 ≤ phase.toNat) && decide (phase.toNat ≤ 6)

/-- `current_output()` of a pulse channel (R427). -/
def Pulse.output (c : Pulse) : Nat := if c.enabled && dutyBit c.duty c.phase then c.env.vol.toNat else 0

/-- The shift of a volume code (R423). -/
def waveShift (code : BitVec 2) : Nat :=
  match code.toNat with
  | 0 => 4
  | 1 => 0
  | 2 => 1
  | _ => 2

/-- The sample under the index: high nibble for an even index (R429). -/
def Wave.sample (c : Wave) : Nat :=
  if bit c.phase 0 then c.buffer.toNat % 16 else c.buffer.toNat / 16

/-- `current_output()` of the wave channel (R429). -/
def Wave.output (c : Wave) : Nat := if c.enabled then c.sample >>> waveShift c.code else 0

/-- `current_output()` of the noise channel (R428). -/
def Noise.output (c : Noise) : Nat := if c.enabled && !bit c.lfsr 0 then c.env.vol.toNat else 0

/-- The sum of the outputs routed to a side, whose routing bits start at `base` (R437). -/
def Apu.sideSum (p : Apu) (base : Nat) : Nat :=
  (if bit p.nr51 base then p.ch1.output else 0)
    + (if bit p.nr51 (base + 1) then p.ch2.output else 0)
    + (if bit p.nr51 (base + 2) then p.ch3.output else 0)
    + (if bit p.nr51 (base + 3) then p.ch4.output else 0)

/-- `Mix()`, left and right; 0 while sound is off (R437, R440). -/
def Apu.mix (p : Apu) : Nat × Nat :=
  if p.on then
    (p.sideSum 4 * ((p.nr50 >>> 4) &&& 7).toNat.succ, p.sideSum 0 * (p.nr50 &&& 7).toNat.succ)
  else (0, 0)

/-- The mono output of a left and a right value: `(left + right) / 2` (R437). -/
def monoOf (m : Rat × Rat) : Rat := (m.1 + m.2) / 2

/-- `Mix()` as the one value of a mono console (R437). -/
def Apu.mono (p : Apu) : Rat := monoOf (p.mix.1, p.mix.2)

/-- `dt = 1 / SAMPLE_RATE` (R438). -/
def sampleTime (cfg : Config) : Rat := 1 / (cfg.sampleRate : Rat)

/-- `rc = 1 / (2 * pi * f)` (R438). -/
def timeConstant (hz : Rat) : Rat := 1 / (2 * Config.pi * hz)

/-- The low-pass coefficient `a = dt / (rc + dt)` (R438). -/
def lowPassA (cfg : Config) : Rat := sampleTime cfg / (timeConstant cfg.lpHz + sampleTime cfg)

/-- The high-pass coefficient `b = rc / (rc + dt)` (R438). -/
def highPassB (cfg : Config) : Rat := timeConstant cfg.hpHz / (timeConstant cfg.hpHz + sampleTime cfg)

/-- The low-pass memory after input `x` (R438). -/
def lowPass (cfg : Config) (lp x : Rat) : Rat := lp + lowPassA cfg * (x - lp)

/-- The high-pass output after the low-pass memory went from `lpPrev` to `lp` (R438). -/
def highPass (cfg : Config) (yPrev lp lpPrev : Rat) : Rat := highPassB cfg * (yPrev + lp - lpPrev)

/-- Append one filtered sample (R438, R442). -/
def Audio.append (cfg : Config) (mix : Nat × Nat) (o : Audio) : Audio :=
  let lpL := lowPass cfg o.lpLeft mix.1
  let lpR := lowPass cfg o.lpRight mix.2
  let hpL := highPass cfg o.hpLeft lpL o.lpLeft
  let hpR := highPass cfg o.hpRight lpR o.lpRight
  { o with
    lpLeft := lpL, hpLeft := hpL, lpRight := lpR, hpRight := hpR
    out := o.out ++ [(hpL, hpR)] }

/-- The output buffer as a mono console gives it (R437, R442; log 19). -/
def Audio.mono (o : Audio) : List Rat := o.out.map monoOf

/-- The sample-boundary check, `n` master-clock periods later (R443). -/
def Audio.step (cfg : Config) (n : Nat) (mix : Nat × Nat) (o : Audio) : Audio :=
  let t := o.sampleTimer + n * cfg.sampleRate
  { times (Audio.append cfg mix) (t / Config.masterHz) o with sampleTimer := t % Config.masterHz }

/-- The number a length counter holds. -/
def Length.value {w : Nat} (l : Length w) : Nat := if l.full then 2 ^ w else l.count.toNat

/-- The full load 2^`w` (R434). -/
def Length.top {w : Nat} : Length w where
  count := 0
  full := true

/-- The load `2^w - n` of a length field `n` (R422 to R424). -/
def Length.load {w : Nat} (n : BitVec w) : Length w where
  count := 0 - n
  full := decide (n = 0)

/-- Whether a length counter is 0. -/
def Length.expired {w : Nat} (l : Length w) : Bool := !l.full && l.count == 0

/-- What a trigger makes of a length counter: "reloads length if expired" (R434). -/
def Length.trigger {w : Nat} (l : Length w) : Length w := if l.expired then Length.top else l

/-- The number one lower, of a counter that is not 0. -/
def Length.pred {w : Nat} (l : Length w) : Length w where
  count := (if l.full then 0 else l.count) - 1
  full := false

/-- The length clock of a counter under its enable bit (R431). -/
def Length.clock {w : Nat} (en : Bool) (l : Length w) : Length w :=
  if en && !l.expired then l.pred else l

/-- Whether the length clock brings a counter to 0, which disables the channel (R431). -/
def Length.expires {w : Nat} (en : Bool) (l : Length w) : Bool :=
  en && !l.expired && l.pred.expired

/-- The length clock of a pulse channel (R431). -/
def Pulse.clockLength (c : Pulse) : Pulse :=
  { c with
    length := c.length.clock c.lengthEn
    enabled := c.enabled && !c.length.expires c.lengthEn }

/-- The length clock of the wave channel (R431). -/
def Wave.clockLength (c : Wave) : Wave :=
  { c with
    length := c.length.clock c.lengthEn
    enabled := c.enabled && !c.length.expires c.lengthEn }

/-- The length clock of the noise channel (R431). -/
def Noise.clockLength (c : Noise) : Noise :=
  { c with
    length := c.length.clock c.lengthEn
    enabled := c.enabled && !c.length.expires c.lengthEn }

/-- The volume one envelope step later (R433). -/
def Envelope.stepVol (e : Envelope) : BitVec 4 :=
  if e.up then (if e.vol = 15 then 15 else e.vol + 1)
  else (if e.vol = 0 then 0 else e.vol - 1)

/-- The envelope clock (R433). The divider is modulo 8, so a reload of 8 is a reload of 0. -/
def Envelope.clock (e : Envelope) : Envelope :=
  if e.div - 1 = 0 then { e with div := e.period, vol := e.stepVol } else { e with div := e.div - 1 }

/-- The volume bump of a write of `v` to NRx2 of an enabled channel (R436). -/
def Envelope.zombieVol (e : Envelope) (v : Byte) : BitVec 4 :=
  let bumped := if e.period = 0 then e.vol + 1 else if e.up then e.vol else e.vol + 2
  if bit v 3 != e.up then 0 - bumped else bumped

/-- The fields a write of NRx2 stores, after the bump when the channel is enabled (R422, R436). -/
def Envelope.write (e : Envelope) (enabled : Bool) (v : Byte) : Envelope :=
  { e with
    vol := if enabled then e.zombieVol v else e.vol
    start := (v >>> 4).setWidth 4
    up := bit v 3
    period := v.setWidth 3 }

/-- What a trigger reloads in an envelope (R434). -/
def Envelope.trigger (e : Envelope) : Envelope := { e with vol := e.start, div := e.period }

/-- NRx2 as stored (R422). -/
def Envelope.byte (e : Envelope) : Byte :=
  ((e.start.setWidth 8) <<< 4) ||| flagAt e.up 3 ||| e.period.setWidth 8

/-- The value `Calc()` returns, which may exceed 11 bits (R432). -/
def Sweep.calc (w : Sweep) : Nat :=
  let d := (w.shadow >>> w.shift.toNat).toNat
  if w.neg then w.shadow.toNat - d else w.shadow.toNat + d

/-- `Calc()` for its check: it latches the use of negate and disables the channel on overflow (R432). -/
def Apu.sweepCheck (p : Apu) : Apu :=
  { p with
    sweep := { p.sweep with negUsed := p.sweep.negUsed || p.sweep.neg }
    ch1 := { p.ch1 with enabled := p.ch1.enabled && decide (p.sweep.calc ≤ 2047) } }

/-- The commit of a sweep and its second check (R432). -/
def Apu.sweepCommit (p : Apu) (new : Nat) : Apu :=
  Apu.sweepCheck { p with
    sweep := { p.sweep with shadow := BitVec.ofNat 11 new }
    ch1 := { p.ch1 with freq := BitVec.ofNat 11 new } }

/-- The sweep clock (R432). -/
def Apu.clockSweep (p : Apu) : Apu :=
  if p.sweep.div - 1 = 0 then
    let q := { p with sweep := { p.sweep with div := p.sweep.period } }
    if q.sweep.en && decide (q.sweep.period ≠ 0) then
      if q.sweep.calc ≤ 2047 ∧ q.sweep.shift ≠ 0 then q.sweepCheck.sweepCommit q.sweep.calc
      else q.sweepCheck
    else q
  else { p with sweep := { p.sweep with div := p.sweep.div - 1 } }

/-- The length clock of every channel (R431). -/
def Apu.clockLengths (p : Apu) : Apu :=
  { p with
    ch1 := p.ch1.clockLength, ch2 := p.ch2.clockLength
    ch3 := p.ch3.clockLength, ch4 := p.ch4.clockLength }

/-- The envelope clock of channels 1, 2 and 4 (R433). -/
def Apu.clockEnvelopes (p : Apu) : Apu :=
  { p with
    ch1 := { p.ch1 with env := p.ch1.env.clock }
    ch2 := { p.ch2 with env := p.ch2.env.clock }
    ch4 := { p.ch4 with env := p.ch4.env.clock } }

/-- One tick of the frame sequencer (R430). -/
def Apu.clockSequencer (p : Apu) : Apu :=
  let q := { p with fsStep := p.fsStep + 1 }
  match q.fsStep.toNat with
  | 0 => q.clockEnvelopes
  | 1 => q.clockLengths
  | 3 => q.clockLengths.clockSweep
  | 5 => q.clockLengths
  | 7 => q.clockLengths.clockSweep
  | _ => q

/-- The sequencer's part of `ApuStep()`: a clock every `period` master-clock periods (R430, R443). -/
def Apu.stepSequencer (period n : Nat) (p : Apu) : Apu :=
  let t := p.fsTimer - (n : Int)
  if t ≤ 0 then Apu.clockSequencer { p with fsTimer := t + (period : Nat) }
  else { p with fsTimer := t }

/-- The channels' part of `ApuStep()` (R443). -/
def Apu.stepChannels (n : Nat) (p : Apu) : Apu :=
  { p with
    ch1 := times Pulse.period1 n p.ch1
    ch2 := times Pulse.period1 n p.ch2
    ch3 := times Wave.period1 n p.ch3
    ch4 := times Noise.period1 n p.ch4 }

/-- `ApuStep()` on the channels and the sequencer, `n` master-clock periods, `period` of them between two clocks
of the sequencer (R443). -/
def Apu.step (period n : Nat) (p : Apu) : Apu :=
  if p.on then (p.stepChannels n).stepSequencer period n else p

/-- A write of NRx1 of a pulse channel while sound is on (R422). -/
def Pulse.writeDuty (c : Pulse) (v : Byte) : Pulse :=
  { c with duty := (v >>> 6).setWidth 2, length := Length.load (v.setWidth 6) }

/-- A write of NRx2 of a pulse channel (R422, R435, R436). -/
def Pulse.writeEnvelope (c : Pulse) (v : Byte) : Pulse :=
  { c with
    env := c.env.write c.enabled v
    dac := v &&& 0xF8 != 0
    enabled := c.enabled && v &&& 0xF8 != 0 }

/-- The frequency with its low byte replaced (R422). -/
def freqLow (f : BitVec 11) (v : Byte) : BitVec 11 := (f &&& 0x700) ||| v.setWidth 11

/-- The frequency with its high three bits replaced (R422). -/
def freqHigh (f : BitVec 11) (v : Byte) : BitVec 11 := (f &&& 0x0FF) ||| ((v.setWidth 11) <<< 8)

/-- A trigger of a pulse channel without the sweep (R434). -/
def Pulse.trigger (c : Pulse) : Pulse :=
  { c with
    length := c.length.trigger
    timer := pulsePeriod c.freq
    env := c.env.trigger
    enabled := c.dac }

/-- A write of NRx4 of channel 2 (R422, R434). -/
def Pulse.writeControl (c : Pulse) (v : Byte) : Pulse :=
  let d := { c with lengthEn := bit v 6, freq := freqHigh c.freq v }
  if bit v 7 then d.trigger else d

/-- What a trigger of channel 1 reloads in its sweep unit (R434). -/
def Sweep.trigger (w : Sweep) (freq : BitVec 11) : Sweep :=
  { w with
    shadow := freq
    div := w.period
    en := decide (w.period ≠ 0) || decide (w.shift ≠ 0)
    negUsed := false }

/-- A trigger of channel 1: the sweep is checked, and `enabled <- dac` comes last (R434). -/
def Apu.trigger1 (p : Apu) : Apu :=
  let q := { p with sweep := p.sweep.trigger p.ch1.freq }
  let r := if q.sweep.shift ≠ 0 then q.sweepCheck else q
  { r with ch1 := r.ch1.trigger }

/-- A write of NR10, with the negate latch (R422, R432). -/
def Apu.writeSweep (p : Apu) (v : Byte) : Apu :=
  { p with
    ch1 := { p.ch1 with
      enabled := p.ch1.enabled && !(p.sweep.neg && !bit v 3 && p.sweep.negUsed) }
    sweep := { p.sweep with
      period := (v >>> 4).setWidth 3, neg := bit v 3, shift := v.setWidth 3 } }

/-- A write of NR14 (R422, R434). -/
def Apu.writeControl1 (p : Apu) (v : Byte) : Apu :=
  let q := { p with ch1 := { p.ch1 with lengthEn := bit v 6, freq := freqHigh p.ch1.freq v } }
  if bit v 7 then q.trigger1 else q

/-- A write of NR30 (R423). -/
def Wave.writeDac (c : Wave) (v : Byte) : Wave :=
  { c with dac := bit v 7, enabled := c.enabled && bit v 7 }

/-- A trigger of channel 3 (R434). -/
def Wave.trigger (c : Wave) : Wave :=
  { c with
    length := c.length.trigger
    timer := wavePeriod c.freq
    env := c.env.trigger
    phase := 0
    enabled := c.dac }

/-- A write of NR34 (R423, R434). -/
def Wave.writeControl (c : Wave) (v : Byte) : Wave :=
  let d := { c with lengthEn := bit v 6, freq := freqHigh c.freq v }
  if bit v 7 then d.trigger else d

/-- A write of NR42 (R424, R435, R436). -/
def Noise.writeEnvelope (c : Noise) (v : Byte) : Noise :=
  { c with
    env := c.env.write c.enabled v
    dac := v &&& 0xF8 != 0
    enabled := c.enabled && v &&& 0xF8 != 0 }

/-- A write of NR43 (R424). -/
def Noise.writeClock (c : Noise) (v : Byte) : Noise :=
  { c with shift := (v >>> 4).setWidth 4, width := bit v 3, divisor := v.setWidth 3 }

/-- A trigger of channel 4 (R434). -/
def Noise.trigger (c : Noise) : Noise :=
  { c with
    length := c.length.trigger
    timer := noisePeriod c
    env := c.env.trigger
    lfsr := 0x7FFF
    enabled := c.dac }

/-- A write of NR44 (R424, R434). -/
def Noise.writeControl (c : Noise) (v : Byte) : Noise :=
  let d := { c with lengthEn := bit v 6 }
  if bit v 7 then d.trigger else d

/-- An envelope at master disable: NRx2 is written with 0, or kept (R439). -/
def Envelope.wipe (keep : Bool) (e : Envelope) : Envelope :=
  if keep then { e with div := 0, vol := 0 } else Envelope.zero

/-- A frequency at master disable: of NRx3 the low byte and of NRx4 the high three bits (R422, R439). -/
def freqWipe (keepLow keepHigh : Bool) (f : BitVec 11) : BitVec 11 :=
  (if keepLow then f &&& 0x0FF else 0) ||| (if keepHigh then f &&& 0x700 else 0)

/-- Master disable of a pulse channel whose NRx1 is at low address byte `at1`: every register field 0 but for the
registers kept (R439). -/
def Pulse.wipe (keep : List Nat) (at1 : Nat) (c : Pulse) : Pulse where
  enabled := false
  dac := keep.contains (at1 + 1) && c.dac
  duty := if keep.contains at1 then c.duty else 0
  freq := freqWipe (keep.contains (at1 + 2)) (keep.contains (at1 + 3)) c.freq
  timer := c.timer
  phase := c.phase
  length := if keep.contains at1 then c.length else Length.zero
  lengthEn := keep.contains (at1 + 3) && c.lengthEn
  env := c.env.wipe (keep.contains (at1 + 1))

/-- Master disable of the sweep unit: NR10 and the sweep state (R439). -/
def Sweep.wipe (keep : List Nat) (w : Sweep) : Sweep :=
  if keep.contains 0x10 then { Sweep.zero with period := w.period, neg := w.neg, shift := w.shift }
  else Sweep.zero

/-- Master disable of the wave channel; the pattern is kept, or cleared where `APU_OFF_KEEP` leaves it out (R439). -/
def Wave.wipe (keep : List Nat) (keepWave : Bool) (c : Wave) : Wave where
  enabled := false
  dac := keep.contains 0x1A && c.dac
  freq := freqWipe (keep.contains 0x1D) (keep.contains 0x1E) c.freq
  timer := c.timer
  phase := c.phase
  length := if keep.contains 0x1B then c.length else Length.zero
  lengthEn := keep.contains 0x1E && c.lengthEn
  env := Envelope.zero
  code := if keep.contains 0x1C then c.code else 0
  buffer := c.buffer
  ram := if keepWave then c.ram else []

/-- Master disable of the noise channel (R439). -/
def Noise.wipe (keep : List Nat) (c : Noise) : Noise where
  enabled := false
  dac := keep.contains 0x21 && c.dac
  shift := if keep.contains 0x22 then c.shift else 0
  width := keep.contains 0x22 && c.width
  divisor := if keep.contains 0x22 then c.divisor else 0
  timer := c.timer
  lfsr := c.lfsr
  length := if keep.contains 0x20 then c.length else Length.zero
  lengthEn := keep.contains 0x23 && c.lengthEn
  env := c.env.wipe (keep.contains 0x21)

/-- Master disable: the registers of `APU_OFF_KEEP` keep their value, the others are written with 0 (R439). NR52's
own bit is the one written; which fields a kept register keeps is log 27. -/
def Apu.turnOff (keep : List Nat) (keepWave : Bool) (p : Apu) : Apu where
  on := false
  ch1 := p.ch1.wipe keep 0x11
  sweep := p.sweep.wipe keep
  ch2 := p.ch2.wipe keep 0x16
  ch3 := p.ch3.wipe keep keepWave
  ch4 := p.ch4.wipe keep
  nr50 := if keep.contains 0x24 then p.nr50 else 0
  nr51 := if keep.contains 0x25 then p.nr51 else 0
  fsStep := 0
  fsTimer := p.fsTimer

/-- Master enable (R439). -/
def Apu.turnOn (p : Apu) : Apu :=
  { p with
    on := true
    fsStep := 0
    ch1 := { p.ch1 with phase := 0 }
    ch2 := { p.ch2 with phase := 0 }
    ch3 := { p.ch3 with buffer := 0 } }

/-- A write of NR52: only a change of bit 7 has an effect (R425, R439). -/
def Apu.writeMaster (cfg : Config) (p : Apu) (v : Byte) : Apu :=
  if p.on && !bit v 7 then p.turnOff cfg.apuOffKeep cfg.keepWave
  else if !p.on && bit v 7 then p.turnOn
  else p

/-- A write of NR10 to NR24 or a neighbour while sound is on, by low address byte (R422). -/
def Apu.writePulse (p : Apu) (off : Nat) (v : Byte) : Apu :=
  match off with
  | 0x10 => p.writeSweep v
  | 0x11 => { p with ch1 := p.ch1.writeDuty v }
  | 0x12 => { p with ch1 := p.ch1.writeEnvelope v }
  | 0x13 => { p with ch1 := { p.ch1 with freq := freqLow p.ch1.freq v } }
  | 0x14 => p.writeControl1 v
  | 0x16 => { p with ch2 := p.ch2.writeDuty v }
  | 0x17 => { p with ch2 := p.ch2.writeEnvelope v }
  | 0x18 => { p with ch2 := { p.ch2 with freq := freqLow p.ch2.freq v } }
  | 0x19 => { p with ch2 := p.ch2.writeControl v }
  | _ => p

/-- A write of NR30 to NR51 or a neighbour while sound is on (R423 to R425). -/
def Apu.writeUpper (p : Apu) (off : Nat) (v : Byte) : Apu :=
  match off with
  | 0x1A => { p with ch3 := p.ch3.writeDac v }
  | 0x1B => { p with ch3 := { p.ch3 with length := Length.load v } }
  | 0x1C => { p with ch3 := { p.ch3 with code := (v >>> 5).setWidth 2 } }
  | 0x1D => { p with ch3 := { p.ch3 with freq := freqLow p.ch3.freq v } }
  | 0x1E => { p with ch3 := p.ch3.writeControl v }
  | 0x20 => { p with ch4 := { p.ch4 with length := Length.load (v.setWidth 6) } }
  | 0x21 => { p with ch4 := p.ch4.writeEnvelope v }
  | 0x22 => { p with ch4 := p.ch4.writeClock v }
  | 0x23 => { p with ch4 := p.ch4.writeControl v }
  | 0x24 => { p with nr50 := v }
  | 0x25 => { p with nr51 := v }
  | _ => p

/-- A write while sound is off: on `DMG` the length fields are loaded, nothing else (R440). -/
def Apu.writeOff (rev : Revision) (p : Apu) (off : Nat) (v : Byte) : Apu :=
  match rev with
  | .cgb => p
  | .dmg =>
    match off with
    | 0x11 => { p with ch1 := { p.ch1 with length := Length.load (v.setWidth 6) } }
    | 0x16 => { p with ch2 := { p.ch2 with length := Length.load (v.setWidth 6) } }
    | 0x1B => { p with ch3 := { p.ch3 with length := Length.load v } }
    | 0x20 => { p with ch4 := { p.ch4 with length := Length.load (v.setWidth 6) } }
    | _ => p

/-- A write of a sound register 0xFF10 to 0xFF3F by low address byte (R421 to R425, R439 to R441). -/
def Apu.write (cfg : Config) (p : Apu) (off : Nat) (v : Byte) : Apu :=
  if 0x30 ≤ off then { p with ch3 := { p.ch3 with ram := p.ch3.ram.write (off - 0x30) v } }
  else if off = 0x26 then p.writeMaster cfg v
  else if !p.on then p.writeOff cfg.rev off v
  else if off < 0x1A then p.writePulse off v
  else p.writeUpper off v

/-- NR52 as read (R425). -/
def Apu.readMaster (p : Apu) : Byte :=
  flagAt p.on 7 ||| 0x70 ||| flagAt p.ch4.enabled 3 ||| flagAt p.ch3.enabled 2
    ||| flagAt p.ch2.enabled 1 ||| flagAt p.ch1.enabled 0

/-- NR10 as stored (R422). -/
def Sweep.byte (w : Sweep) : Byte :=
  ((w.period.setWidth 8) <<< 4) ||| flagAt w.neg 3 ||| w.shift.setWidth 8

/-- NR43 as stored (R424). -/
def Noise.clockByte (c : Noise) : Byte :=
  ((c.shift.setWidth 8) <<< 4) ||| flagAt c.width 3 ||| c.divisor.setWidth 8

/-- A read of NR10 to NR24 (R421, R422, the read-1 masks of R35). -/
def Apu.readPulse (p : Apu) (off : Nat) : Byte :=
  match off with
  | 0x10 => p.sweep.byte ||| 0x80
  | 0x11 => ((p.ch1.duty.setWidth 8) <<< 6) ||| 0x3F
  | 0x12 => p.ch1.env.byte
  | 0x14 => flagAt p.ch1.lengthEn 6 ||| 0xBF
  | 0x16 => ((p.ch2.duty.setWidth 8) <<< 6) ||| 0x3F
  | 0x17 => p.ch2.env.byte
  | 0x19 => flagAt p.ch2.lengthEn 6 ||| 0xBF
  | _ => Config.fill

/-- A read of NR30 to NR52 (R421, R423 to R425, the read-1 masks of R35). -/
def Apu.readUpper (p : Apu) (off : Nat) : Byte :=
  match off with
  | 0x1A => flagAt p.ch3.dac 7 ||| 0x7F
  | 0x1C => ((p.ch3.code.setWidth 8) <<< 5) ||| 0x9F
  | 0x1E => flagAt p.ch3.lengthEn 6 ||| 0xBF
  | 0x21 => p.ch4.env.byte
  | 0x22 => p.ch4.clockByte
  | 0x23 => flagAt p.ch4.lengthEn 6 ||| 0xBF
  | 0x24 => p.nr50
  | 0x25 => p.nr51
  | 0x26 => p.readMaster
  | _ => Config.fill

/-- A read of a sound register 0xFF10 to 0xFF3F by low address byte (R421, R441). -/
def Apu.read (p : Apu) (off : Nat) : Byte :=
  if 0x30 ≤ off then p.ch3.ram.read (off - 0x30)
  else if off < 0x1A then p.readPulse off
  else p.readUpper off

end Sys2Proof.Machine
end

