-- ==== Sys2Proof/Machine/CartUnit.lean ====
section
/-! DEFINITION. The Bank Controller (20_memory.md R93 to R103). -/

namespace Sys2Proof.Machine

/-- The "bank 0 is never selectable, substitute bank 1" rule (R94, R98). -/
def noBank0 {w : Nat} (v : BitVec w) : BitVec w := if v = 0 then 1 else v

/-- The value under the external-RAM enable latch (R95). -/
def enableValue (v : Byte) : Bool := v &&& 0x0F == 0x0A

/-- The ROM bank in the window 0x0000 to 0x3FFF, before reduction (R67, R96 to R101). -/
def Cart.bank0 (cfg : Config) (c : Cart) : Nat :=
  match cfg.family with
  | .none => 0
  | .simple => if c.mbcMode then c.hi2.toNat * 32 else 0
  | .rtc => 0
  | .wide9 => 0
  | .multicart => if c.mbcMode then c.mcOuter.toNat * 2 ^ cfg.mcInnerBits else 0

/-- The ROM bank in the window 0x4000 to 0x7FFF, before reduction (R68, R96 to R101). -/
def Cart.bankN (cfg : Config) (c : Cart) : Nat :=
  match cfg.family with
  | .none => 1
  | .simple => c.hi2.toNat * 32 + c.lo5.toNat
  | .rtc => c.romBank.toNat
  | .wide9 => if c.romBank = 0 then 1 else c.romBank.toNat
  | .multicart => c.mcOuter.toNat * 2 ^ cfg.mcInnerBits + c.mcInner.toNat % 2 ^ cfg.mcInnerBits

/-- What the window 0xA000 to 0xBFFF reaches. -/
inductive ExtWindow where
  | nothing
  | ram (bank : Nat)
  | clock (k : Nat)
deriving DecidableEq, Repr

/-- A RAM bank reduced to the size of the image; without RAM the window holds nothing (R70, R102). -/
def ramWindow (cfg : Config) (bank : Nat) : ExtWindow :=
  if 0 < cfg.ramBanks then .ram (bank % cfg.ramBanks) else .nothing

/-- The external window (R70, R95 to R101). -/
def Cart.extWindow (cfg : Config) (c : Cart) : ExtWindow :=
  match cfg.family with
  | .none => if cfg.ramBanks = 1 then .ram 0 else .nothing
  | .simple =>
    if c.ramEnable then ramWindow cfg (if c.mbcMode then c.hi2.toNat else 0) else .nothing
  | .rtc =>
    if c.ramEnable then
      if c.rtcSelect.toNat ≤ 3 then ramWindow cfg c.ramBank.toNat
      else if 8 ≤ c.rtcSelect.toNat ∧ c.rtcSelect.toNat ≤ 12 then .clock (c.rtcSelect.toNat - 8)
      else .nothing
    else .nothing
  | .wide9 => if c.ramEnable then ramWindow cfg c.ramBank.toNat else .nothing
  | .multicart => if c.ramEnable then ramWindow cfg c.ramBank.toNat else .nothing

/-- Byte `k` of a clock block, in the order of R99. -/
def Rtc.read (r : Rtc) (k : Nat) : Byte :=
  match k with
  | 0 => r.seconds
  | 1 => r.minutes
  | 2 => r.hours
  | 3 => r.dayLow
  | _ => r.dayHigh

/-- A clock block with byte `k` replaced (R99). -/
def Rtc.write (r : Rtc) (k : Nat) (v : Byte) : Rtc :=
  match k with
  | 0 => { r with seconds := v }
  | 1 => { r with minutes := v }
  | 2 => { r with hours := v }
  | 3 => { r with dayLow := v }
  | _ => { r with dayHigh := v }

/-- A write of a selected clock register stores into both copies (R99). -/
def Cart.writeClock (c : Cart) (k : Nat) (v : Byte) : Cart :=
  { c with rtcLive := c.rtcLive.write k v, rtcLatched := c.rtcLatched.write k v }

/-- The registers of family `SIMPLE` above the enable range (R97). -/
def Cart.writeSimple (c : Cart) (a : Nat) (v : Byte) : Cart :=
  if a < 0x4000 then { c with lo5 := noBank0 (v.setWidth 5) }
  else if a < 0x6000 then { c with hi2 := v.setWidth 2 }
  else { c with mbcMode := bit v 0 }

/-- The latch of family `RTC`: 0x00 then 0x01 copies the live clock (R99). -/
def Cart.writeLatch (c : Cart) (v : Byte) : Cart :=
  { c with
    rtcLatched := if c.rtcLatchPrev = 0x00 ∧ v = 0x01 then c.rtcLive else c.rtcLatched
    rtcLatchPrev := v }

/-- The select register of family `RTC` (R99). -/
def Cart.writeSelect (c : Cart) (v : Byte) : Cart :=
  { c with
    rtcSelect := v.setWidth 4
    ramBank := if (v &&& 0x0F).toNat ≤ 3 then v.setWidth 4 else c.ramBank }

/-- The registers of family `RTC` above the enable range (R99). -/
def Cart.writeRtc (c : Cart) (a : Nat) (v : Byte) : Cart :=
  if a < 0x4000 then { c with romBank := noBank0 ((v.setWidth 7).setWidth 9) }
  else if a < 0x6000 then c.writeSelect v
  else c.writeLatch v

/-- The registers of family `WIDE9` above the enable range (R100). -/
def Cart.writeWide9 (c : Cart) (a : Nat) (v : Byte) : Cart :=
  if a < 0x3000 then { c with romBank := (c.romBank &&& 0x100) ||| v.setWidth 9 }
  else if a < 0x4000 then { c with romBank := (c.romBank &&& 0x0FF) ||| ((v.setWidth 1).setWidth 9 <<< 8) }
  else if a < 0x6000 then { c with ramBank := v.setWidth 4 }
  else c

/-- The registers of family `MULTICART` above the enable range (R101). -/
def Cart.writeMulticart (c : Cart) (a : Nat) (v : Byte) : Cart :=
  if a < 0x4000 then { c with mcInner := noBank0 (v.setWidth 5) }
  else if a < 0x6000 then { c with mcOuter := v.setWidth 2 }
  else { c with mbcMode := bit v 0 }

/-- The registers above the enable range, by family (R94). -/
def Cart.writeBanks (cfg : Config) (c : Cart) (a : Nat) (v : Byte) : Cart :=
  match cfg.family with
  | .none => c
  | .simple => c.writeSimple a v
  | .rtc => c.writeRtc a v
  | .wide9 => c.writeWide9 a v
  | .multicart => c.writeMulticart a v

/-- The Bank Controller write handler, for an address below 0x8000 (R94 to R101). Family `NONE` discards
every write; the others have the enable latch below 0x2000. -/
def Cart.write (cfg : Config) (c : Cart) (a : Nat) (v : Byte) : Cart :=
  if a < 0x2000 then
    match cfg.family with
    | .none => c
    | .simple => { c with ramEnable := enableValue v }
    | .rtc => { c with ramEnable := enableValue v }
    | .wide9 => { c with ramEnable := enableValue v }
    | .multicart => { c with ramEnable := enableValue v }
  else c.writeBanks cfg a v

end Sys2Proof.Machine
end

