-- ==== Sys2Proof/Machine/Interrupts.lean ====
section
/-! DEFINITION. The Interrupt Controller's registers (60_exceptions.md R313 to R319, R327). Taking an
interrupt is in Machine/Ops.lean. -/

namespace Sys2Proof.Machine

/-- `IF` with bit `k` set: `RequestInterrupt(k)` (R316). -/
def Irq.request (q : Irq) (k : Nat) : Irq := { q with flags := q.flags ||| (1#5 <<< k) }

/-- `RequestInterrupt(k)` if the condition holds. -/
def Irq.requestIf (q : Irq) (c : Bool) (k : Nat) : Irq := if c then q.request k else q

/-- `IE & IF & 0x1F` (R318). -/
def Irq.pending (q : Irq) : BitVec 5 := q.ie &&& q.flags

/-- The index of the lowest set bit, the source that is serviced (R319); 4 if no lower bit is set. -/
def lowestBit (v : BitVec 5) : Nat :=
  if bit v 0 then 0
  else if bit v 1 then 1
  else if bit v 2 then 2
  else if bit v 3 then 3
  else 4

/-- `IF[k] <- 0` (R320). -/
def Irq.clear (q : Irq) (k : Nat) : Irq := { q with flags := q.flags &&& ~~~(1#5 <<< k) }

/-- A read of `IF` or `IE`: bits 7 to 5 read 1 (R314, R315). -/
def irqByte (v : BitVec 5) : Byte := 0xE0 ||| v.setWidth 8

/-- A write of `IF`: `IF[4:0] <- v[4:0]` (R327). -/
def Irq.writeFlags (q : Irq) (v : Byte) : Irq := { q with flags := v.setWidth 5 }

/-- A write of `IE`: `IE[4:0] <- v[4:0]` (R315). -/
def Irq.writeEnable (q : Irq) (v : Byte) : Irq := { q with ie := v.setWidth 5 }

/-- The vector of source `k` (R313). -/
def vectorOf (k : Nat) : Word := BitVec.ofNat 16 (0x0040 + 8 * k)

end Sys2Proof.Machine
end

