-- ==== Sys2Proof/Machine/Joypad.lean ====
section
/-! DEFINITION. The input register, the serial registers and the host's actions between ticks
(61_devices_ppu_apu.md R449, R450; 70_reset_and_hazards.md R477, R478). -/

namespace Sys2Proof.Machine

/-- Bits 3 to 0 of P1, 0 = pressed: a selected group's pressed buttons clear their line (R449). -/
def padLines (p : Pad) (buttons : BitVec 8) : BitVec 4 :=
  let dir : BitVec 4 := if p.selDirection then 0 else buttons.setWidth 4
  let act : BitVec 4 := if p.selAction then 0 else (buttons >>> 4).setWidth 4
  ~~~(dir ||| act)

/-- A read of P1: bits 7 and 6 read 1, then the select bits, then the lines (R449). -/
def readP1 (p : Pad) (buttons : BitVec 8) : Byte :=
  0xC0 ||| flagAt p.selAction 5 ||| flagAt p.selDirection 4 ||| (padLines p buttons).setWidth 8

/-- Whether a line went from 1 to 0, the document's "input edge" (R449). -/
def padEdge (p : Pad) (buttons : BitVec 8) : Bool := p.joyPrev &&& ~~~(padLines p buttons) != 0

/-- `JoypadEdge()` (R449). -/
def joypadEdge (s : State) : State :=
  { s with
    irq := s.irq.requestIf (padEdge s.pad s.inputs.buttons) 4
    pad := { s.pad with joyPrev := padLines s.pad s.inputs.buttons } }

/-- A write of P1 stores the select bits and re-evaluates the input edge (R449, R84). -/
def writeP1 (s : State) (v : Byte) : State :=
  joypadEdge { s with pad := { s.pad with selAction := bit v 5, selDirection := bit v 4 } }

/-- The bits of SC that are storage (R450). -/
def scMask (r : Revision) : Byte :=
  match r with
  | .dmg => 0x81
  | .cgb => 0x83

/-- A read of SC: its other bits read 1 (R450, R35). -/
def readSc (r : Revision) (p : Pad) : Byte := (p.sc &&& scMask r) ||| ~~~(scMask r)

/-- A write of SC (R450): storage only, no transfer. -/
def writeSc (r : Revision) (p : Pad) (v : Byte) : Pad := { p with sc := v &&& scMask r }

/-- What one action of the host does (R477, R478, R449, R99). -/
def applyInput (a : InputAction) (s : State) : State :=
  match a with
  | .setButtons b => joypadEdge { s with inputs := { s.inputs with buttons := b } }
  | .setIrq3Line b =>
    { s with
      irq := s.irq.requestIf (b && !s.inputs.irq3Line) 3
      inputs := { s.inputs with irq3Line := b } }
  | .setClock live stamp => { s with cart := { s.cart with rtcLive := live, rtcTimestamp := stamp } }
  | .takeFrame => { s with ppu := { s.ppu with frameDone := false } }
  | .drainAudio => { s with audio := { s.audio with out := [] } }

/-- Apply the actions that are due before a tick, in order, and count down the wait of the next one. -/
def runScript : List (Nat × InputAction) → State → State
  | [], s => { s with inputs := { s.inputs with script := [] } }
  | (0, a) :: rest, s => runScript rest (applyInput a s)
  | (n + 1, a) :: rest, s => { s with inputs := { s.inputs with script := (n, a) :: rest } }

/-- The host's turn before a tick (R477). -/
def hostPhase (s : State) : State := runScript s.inputs.script s

/-- Whether any of the eight button lines is pressed, the wake condition of `stopped` (R155). -/
def anyButton (s : State) : Bool := s.inputs.buttons != 0

end Sys2Proof.Machine
end

