-- ==== Sys2Proof/Machine/PpuPixel.lean ====
section
/-! DEFINITION. One pixel of the Pixel-Pipeline: background, window and sprite layers
(61_devices_ppu_apu.md R384, R389 to R391, R399, R400, R402, R403). -/

namespace Sys2Proof.Machine

/-- What a layer contributes at a dot. -/
structure LayerPixel where
  /-- Colour index, 0 to 3. -/
  ci : Nat
  /-- `CGB` palette number. -/
  palette : Nat
  /-- `CGB` background-over-sprite priority, attribute bit 7 of the tile (R403). -/
  priority : Bool
deriving DecidableEq, Repr

/-- `vram[bank][a]` for a CPU address `a` (R389). -/
def vramAt (vram : Memory) (bank a : Nat) : Byte := vram.read (bank * 0x2000 + (a - 0x8000))

/-- The 2-bit colour index of column bit `k` of two bit-planes (R389, R400). -/
def planeIndex (lo hi : Byte) (k : Nat) : Nat := 2 * boolNat (bit hi k) + boolNat (bit lo k)

/-- The address of a background or window tile (R389): unsigned from 0x8000, or signed from 0x9000. -/
def bgTileBase (lcdc : Byte) (t : Nat) : Nat :=
  if bit lcdc 4 then 0x8000 + 16 * t
  else if t < 128 then 0x9000 + 16 * t
  else 0x8000 + 16 * t

/-- The decode shared by background and window: the tile at pixel (`x`, `y`) of the map at `map`
(R389, and R403 on `CGB`). -/
def tilePixel (rev : Revision) (lcdc : Byte) (vram : Memory) (map x y : Nat) : LayerPixel :=
  let cell := map + 32 * (y / 8) + x / 8
  let t := (vramAt vram 0 cell).toNat
  let base := bgTileBase lcdc t
  match rev with
  | .dmg =>
    let lo := vramAt vram 0 (base + 2 * (y % 8))
    let hi := vramAt vram 0 (base + 2 * (y % 8) + 1)
    { ci := planeIndex lo hi (7 - x % 8), palette := 0, priority := false }
  | .cgb =>
    let attr := vramAt vram 1 cell
    let bank := boolNat (bit attr 3)
    let row := if bit attr 6 then 7 - y % 8 else y % 8
    let k := if bit attr 5 then x % 8 else 7 - x % 8
    let lo := vramAt vram bank (base + 2 * row)
    let hi := vramAt vram bank (base + 2 * row + 1)
    { ci := planeIndex lo hi k, palette := attr.toNat % 8, priority := bit attr 7 }

/-- A tile map's address (R381). -/
def mapBase (high : Bool) : Nat := if high then 0x9C00 else 0x9800

/-- Whether background and window are off: `DMG` with LCDC bit 0 clear (R389). -/
def bgOff (rev : Revision) (lcdc : Byte) : Bool := rev == .dmg && !bit lcdc 0

/-- The background pixel (R389). -/
def bgPixel (rev : Revision) (p : Ppu) (vram : Memory) : LayerPixel :=
  tilePixel rev p.lcdc vram (mapBase (bit p.lcdc 3))
    ((p.lx + p.scx.toNat) % 256) ((p.ly.toNat + p.scy.toNat) % 256)

/-- Whether the dot falls inside the window (R390). -/
def windowHere (rev : Revision) (p : Ppu) : Bool :=
  bit p.lcdc 5 && !bgOff rev p.lcdc && decide (p.wy.toNat ≤ p.ly.toNat)
    && decide (p.wx.toNat ≤ p.lx + 7)

/-- The window pixel (R390). -/
def windowPixel (rev : Revision) (p : Ppu) (vram : Memory) : LayerPixel :=
  tilePixel rev p.lcdc vram (mapBase (bit p.lcdc 6)) (p.lx + 7 - p.wx.toNat) p.winLine

/-- Background or window, whichever shows (R389, R390). -/
def backPixel (rev : Revision) (p : Ppu) (vram : Memory) : LayerPixel :=
  if bgOff rev p.lcdc then { ci := 0, palette := 0, priority := false }
  else if windowHere rev p then windowPixel rev p vram
  else bgPixel rev p vram

/-- Sprite height, 8 or 16 lines (R381, R387). -/
def spriteHeight (lcdc : Byte) : Nat := if bit lcdc 2 then 16 else 8

/-- Whether a sprite with top byte `y` covers line `ly`, compared as integers (R387). -/
def spriteCovers (lcdc : Byte) (ly y : Nat) : Bool :=
  decide (y ≤ ly + 16) && decide (ly + 16 < y + spriteHeight lcdc)

/-- Byte `j` of object-table entry `i` (R399). -/
def oamByte (oam : Memory) (i j : Nat) : Byte := oam.read (4 * i + j)

/-- The row of sprite `i` on this line before flipping (R391). The spec states no row for an entry whose
`Y` was rewritten after `search` chose it: a free value. -/
def spriteRow (p : Ppu) (oam : Memory) (i : Nat) : Nat :=
  let y := (oamByte oam i 0).toNat
  if spriteCovers p.lcdc p.ly.toNat y then p.ly.toNat + 16 - y
  else Config.staleSpriteRow i p.ly.toNat y % spriteHeight p.lcdc

/-- The colour index of sprite `i` at this dot (R391). -/
def spriteIndexAt (rev : Revision) (p : Ppu) (vram oam : Memory) (i : Nat) : Nat :=
  let attr := oamByte oam i 3
  let h := spriteHeight p.lcdc
  let row0 := spriteRow p oam i
  let row := if bit attr 6 then h - 1 - row0 else row0
  let t := oamByte oam i 2
  let tile := if h = 16 then (if row < 8 then t &&& 0xFE else t ||| 0x01) else t
  let bank := match rev with
    | .dmg => 0
    | .cgb => boolNat (bit attr 3)
  let base := 0x8000 + 16 * tile.toNat + 2 * (row % 8)
  let col0 := p.lx + 8 - (oamByte oam i 1).toNat
  let col := if bit attr 5 then 7 - col0 else col0
  planeIndex (vramAt vram bank base) (vramAt vram bank (base + 1)) (7 - col)

/-- Whether sprite `i` covers this dot with a colour index other than 0 (R391). -/
def spriteShows (rev : Revision) (p : Ppu) (vram oam : Memory) (i : Nat) : Bool :=
  let x := (oamByte oam i 1).toNat
  decide (p.lx < x) && decide (x ≤ p.lx + 8) && decide (spriteIndexAt rev p vram oam i ≠ 0)

/-- Whether sprite `i`, later in table order, goes before sprite `j` (R391): on `DMG` a smaller `X`
wins, on `CGB` table order alone decides. -/
def spriteBefore (rev : Revision) (oam : Memory) (i j : Nat) : Bool :=
  match rev with
  | .dmg => decide ((oamByte oam i 1).toNat < (oamByte oam j 1).toNat)
  | .cgb => false

/-- The first sprite in priority order among those of `line` that show at this dot (R391). -/
def pickSprite (rev : Revision) (p : Ppu) (vram oam : Memory) : List Nat → Option Nat → Option Nat
  | [], best => best
  | i :: rest, best =>
    if spriteShows rev p vram oam i then
      match best with
      | none => pickSprite rev p vram oam rest (some i)
      | some j =>
        pickSprite rev p vram oam rest (if spriteBefore rev oam i j then some i else some j)
    else pickSprite rev p vram oam rest best

/-- A `DMG` shade through a palette register (R384). -/
def shade (pal : Byte) (ci : Nat) : BitVec 15 := ((pal >>> (2 * ci)) &&& 3).setWidth 15

/-- A `CGB` colour: two bytes, low first, 15 bits (R402). -/
def cgbColour (pal : Memory) (p c : Nat) : BitVec 15 :=
  (pal.read (8 * p + 2 * c + 1) ++ pal.read (8 * p + 2 * c)).setWidth 15

/-- The colour of the background or window layer alone (R389). -/
def backColour (rev : Revision) (p : Ppu) (b : LayerPixel) : BitVec 15 :=
  match rev with
  | .dmg => if bgOff rev p.lcdc then 0 else shade p.bgp b.ci
  | .cgb => cgbColour p.bgPal b.palette b.ci

/-- Whether the OBJ-vs-BG rule hides a sprite with attribute `attr` (R391). -/
def spriteHidden (rev : Revision) (p : Ppu) (attr : Byte) (b : LayerPixel) : Bool :=
  match rev with
  | .dmg => bit attr 7 && decide (b.ci ≠ 0)
  | .cgb => bit p.lcdc 0 && (bit attr 7 || b.priority) && decide (b.ci ≠ 0)

/-- The colour of a sprite pixel (R391). -/
def spriteColour (rev : Revision) (p : Ppu) (attr : Byte) (si : Nat) : BitVec 15 :=
  match rev with
  | .dmg => shade (if bit attr 4 then p.obp1 else p.obp0) si
  | .cgb => cgbColour p.objPal (attr.toNat % 8) si

/-- `Pixel(lx, LY)`: the three layers composed with the contents of this moment (R389 to R391). -/
def pixel (rev : Revision) (p : Ppu) (vram oam : Memory) : BitVec 15 :=
  let b := backPixel rev p vram
  if bit p.lcdc 1 then
    match pickSprite rev p vram oam p.lineSprites none with
    | none => backColour rev p b
    | some i =>
      let attr := oamByte oam i 3
      if spriteHidden rev p attr b then backColour rev p b
      else spriteColour rev p attr (spriteIndexAt rev p vram oam i)
  else backColour rev p b

end Sys2Proof.Machine
end

