-- ==== Sys2Proof/Machine/PpuUnit.lean ====
section
/-! DEFINITION. The Pixel-Pipeline's state machine and registers (61_devices_ppu_apu.md R380 to R388, R392
to R398, R402, R404, R405). -/

namespace Sys2Proof.Machine

/-- The PPU during a tick, with what it asks of the other blocks: interrupt 0, interrupt 1 and an entry
into `hblank` (R393, R395, R392). -/
structure PpuRun where
  ppu : Ppu
  vblankReq : Bool
  statReq : Bool
  hblankEntered : Bool
deriving DecidableEq, Repr

/-- A PPU that has asked for nothing yet. -/
def PpuRun.of (p : Ppu) : PpuRun where
  ppu := p
  vblankReq := false
  statReq := false
  hblankEntered := false

/-- Add a STAT request if the condition holds (R395). -/
def PpuRun.stat (r : PpuRun) (c : Bool) : PpuRun := { r with statReq := r.statReq || c }

/-- `LineCompare(v)` (R394). -/
def PpuRun.lineCompare (r : PpuRun) (v : Byte) : PpuRun :=
  { r with ppu := { r.ppu with lycMatch := v == r.ppu.lyc } }.stat (v == r.ppu.lyc && bit r.ppu.statMask 3)

/-- The first ten table entries, in index order from `i`, that cover the line (R387). -/
def selectSprites (lcdc : Byte) (ly : Nat) (oam : Memory) : (todo i kept : Nat) → List Nat
  | 0, _, _ => []
  | todo + 1, i, kept =>
    if kept < 10 then
      if spriteCovers lcdc ly (oamByte oam i 0).toNat then
        i :: selectSprites lcdc ly oam todo (i + 1) (kept + 1)
      else selectSprites lcdc ly oam todo (i + 1) kept
    else []

/-- `EnterSearch()` (R387). -/
def PpuRun.enterSearch (r : PpuRun) (oam : Memory) : PpuRun :=
  { r with
    ppu := { r.ppu with
      mode := .search
      winLine := if r.ppu.ly = 0 then 0 else r.ppu.winLine
      lineSprites := selectSprites r.ppu.lcdc r.ppu.ly.toNat oam 40 0 0 } }.stat (bit r.ppu.statMask 2)

/-- `EnterTransfer()` (R388). -/
def PpuRun.enterTransfer (r : PpuRun) : PpuRun :=
  { r with ppu := { r.ppu with mode := .transfer, lx := 0, winDrawn := false } }

/-- `EnterHblank()`; the bulk copy engine's part is in `ppuStep` (R392, R390). -/
def PpuRun.enterHblank (r : PpuRun) : PpuRun :=
  { r with
    hblankEntered := true
    ppu := { r.ppu with
      mode := .hblank
      winLine := if r.ppu.winDrawn then r.ppu.winLine + 1 else r.ppu.winLine } }.stat (bit r.ppu.statMask 0)

/-- `EnterVblank()` (R393, R404). -/
def PpuRun.enterVblank (r : PpuRun) : PpuRun :=
  { r with
    vblankReq := true
    ppu := { r.ppu with mode := .vblank, frameDone := true } }.stat (bit r.ppu.statMask 1)

/-- `StartLine()` (R386). -/
def PpuRun.startLine (cfg : Config) (r : PpuRun) (oam : Memory) : PpuRun :=
  let r1 := if r.ppu.ly ≠ 0 then r.lineCompare r.ppu.ly else r
  if r.ppu.ly.toNat < cfg.ppuVisibleLines then r1.enterSearch oam
  else if r.ppu.ly.toNat = cfg.ppuVisibleLines then r1.enterVblank
  else r1

/-- The pixel part of a dot: in the first 160 dots of `transfer` (R388, R390). -/
def Ppu.drawDot (rev : Revision) (vram oam : Memory) (p : Ppu) : Ppu :=
  if p.mode = .transfer ∧ p.lx < 160 then
    { p with
      framebuffer := cellWrite p.framebuffer (160 * p.ly.toNat + p.lx) (pixel rev p vram oam)
      winDrawn := p.winDrawn || windowHere rev p
      lx := p.lx + 1 }
  else p

/-- The mode entries of a dot on a visible line, the one into `transfer` first (R386). -/
def PpuRun.visibleEntries (cfg : Config) (r : PpuRun) : PpuRun :=
  if r.ppu.ly.toNat < cfg.ppuVisibleLines then
    let r1 := if r.ppu.dot = cfg.ppuD1 then r.enterTransfer else r
    if r.ppu.dot = cfg.ppuD1 + cfg.ppuD2 then r1.enterHblank else r1
  else r

/-- `LastLineCompare()` at dot 4 of the highest line (R394). -/
def PpuRun.lastLine (cfg : Config) (r : PpuRun) : PpuRun :=
  if r.ppu.ly.toNat = cfg.ppuTotalLines - 1 ∧ r.ppu.dot = 4 then r.lineCompare 0 else r

/-- The end of a line (R386). -/
def PpuRun.endLine (cfg : Config) (r : PpuRun) (oam : Memory) : PpuRun :=
  if r.ppu.dot = cfg.ppuLineDots then
    { r with ppu := { r.ppu with
        dot := 0
        ly := BitVec.ofNat 8 ((r.ppu.ly.toNat + 1) % cfg.ppuTotalLines) } }.startLine cfg oam
  else r

/-- One dot (R386). -/
def PpuRun.dot (cfg : Config) (vram oam : Memory) (r : PpuRun) : PpuRun :=
  let p := r.ppu.drawDot cfg.rev vram oam
  (({ r with ppu := { p with dot := p.dot + 1 } }.visibleEntries cfg).lastLine cfg).endLine cfg oam

/-- `n` dots. -/
def PpuRun.dots (cfg : Config) (vram oam : Memory) : Nat → PpuRun → PpuRun
  | 0, r => r
  | n + 1, r => PpuRun.dots cfg vram oam n (r.dot cfg vram oam)

/-- Dots, and master-clock periods for the APU, per tick: half at double speed (R151, R386). -/
def periodsPerTick (cfg : Config) (c : Cpu) : Nat :=
  if c.doubleSpeed then cfg.tcycPerStep / 2 else cfg.tcycPerStep

/-- The PPU's part of a tick: nothing while the pipeline is disabled (R386, R397). -/
def ppuRun (s : State) : PpuRun :=
  if bit s.ppu.lcdc 7 then
    PpuRun.dots s.cfg s.store.vram s.store.oam (periodsPerTick s.cfg s.cpu) (PpuRun.of s.ppu)
  else PpuRun.of s.ppu

/-- Whether an `hblank` entry starts a block of the blanking-synchronised copy (R392, R345). -/
def hblankCopies (s : State) : Bool :=
  s.cfg.rev == .cgb && s.dma.hdmaActive && s.dma.hdmaMode == .hblank

/-- What a PPU run does to the other blocks (R392 to R395). -/
def applyPpu (s : State) (r : PpuRun) : State :=
  { s with
    ppu := r.ppu
    irq := (s.irq.requestIf r.vblankReq 0).requestIf r.statReq 1
    dma := { s.dma with
      hdmaBlockLeft := if r.hblankEntered && hblankCopies s then 16 else s.dma.hdmaBlockLeft } }

/-- `PpuStep()` (R386). -/
def ppuStep (s : State) : State := applyPpu s (ppuRun s)

/-- The mode number in STAT bits 1 to 0; 0 while disabled (R382, R405). -/
def Ppu.modeBits (p : Ppu) : Byte :=
  if bit p.lcdc 7 then
    match p.mode with
    | .hblank => 0
    | .vblank => 1
    | .search => 2
    | .transfer => 3
  else 0

/-- A read of STAT (R382). -/
def Ppu.readStat (p : Ppu) : Byte :=
  0x80 ||| ((p.statMask.setWidth 8) <<< 3) ||| flagAt p.lycMatch 2 ||| p.modeBits

/-- A read of LY: 0 from dot 4 of the highest line on, and 0 while disabled (R394, R405). -/
def Ppu.readLy (cfg : Config) (p : Ppu) : Byte :=
  if bit p.lcdc 7 then
    if p.ly.toNat = cfg.ppuTotalLines - 1 ∧ 4 ≤ p.dot then 0 else p.ly
  else 0

/-- Disabling the pipeline (R397). -/
def Ppu.disable (cfg : Config) (p : Ppu) : Ppu :=
  { p with ly := 0, dot := cfg.ppuReentryOffset, mode := .search, lx := 0, winLine := 0 }

/-- A write of LCDC, with the transitions of bit 7 (R381, R397, R398). -/
def writeLcdc (s : State) (v : Byte) : State :=
  let p := { s.ppu with lcdc := v }
  if bit s.ppu.lcdc 7 && !bit v 7 then { s with ppu := p.disable s.cfg }
  else if !bit s.ppu.lcdc 7 && bit v 7 then
    applyPpu s ((PpuRun.of p).startLine s.cfg s.store.oam)
  else { s with ppu := p }

/-- A read of BCPS or OCPS: bit 6 reads 1 (R402). -/
def readPalettePtr (q : PalettePtr) : Byte := flagAt q.autoInc 7 ||| 0x40 ||| q.index.setWidth 8

/-- A write of BCPS or OCPS (R402). -/
def writePalettePtr (v : Byte) : PalettePtr where
  index := v.setWidth 6
  autoInc := bit v 7

/-- The pointer after a write of its data register (R402). -/
def PalettePtr.next (q : PalettePtr) : PalettePtr :=
  if q.autoInc then { q with index := q.index + 1 } else q

/-- Whether a CPU write of video RAM is discarded (R85). -/
def vramBlocked (p : Ppu) : Bool := bit p.lcdc 7 && p.mode == .transfer

/-- Whether a CPU write of the sprite table is discarded (R85). -/
def oamBlocked (p : Ppu) : Bool := bit p.lcdc 7 && (p.mode == .search || p.mode == .transfer)

/-- A write of a pixel-pipeline register by its low address byte (R381 to R384, R402); LY ignores it.
The palette pointers and data exist on `CGB` only. -/
def writePpu (s : State) (off : Nat) (v : Byte) : State :=
  match off with
  | 0x40 => writeLcdc s v
  | 0x41 => { s with ppu := { s.ppu with statMask := (v >>> 3).setWidth 4 } }
  | 0x42 => { s with ppu := { s.ppu with scy := v } }
  | 0x43 => { s with ppu := { s.ppu with scx := v } }
  | 0x45 => { s with ppu := { s.ppu with lyc := v } }
  | 0x47 => { s with ppu := { s.ppu with bgp := v } }
  | 0x48 => { s with ppu := { s.ppu with obp0 := v } }
  | 0x49 => { s with ppu := { s.ppu with obp1 := v } }
  | 0x4A => { s with ppu := { s.ppu with wy := v } }
  | 0x4B => { s with ppu := { s.ppu with wx := v } }
  | _ => s

/-- A read of a pixel-pipeline register by its low address byte (R381 to R384). -/
def readPpu (cfg : Config) (p : Ppu) (off : Nat) : Byte :=
  match off with
  | 0x40 => p.lcdc
  | 0x41 => p.readStat
  | 0x42 => p.scy
  | 0x43 => p.scx
  | 0x44 => p.readLy cfg
  | 0x45 => p.lyc
  | 0x47 => p.bgp
  | 0x48 => p.obp0
  | 0x49 => p.obp1
  | 0x4A => p.wy
  | 0x4B => p.wx
  | _ => Config.fill

/-- A write of a `CGB` palette register (R402). -/
def writePalette (p : Ppu) (off : Nat) (v : Byte) : Ppu :=
  match off with
  | 0x68 => { p with bcps := writePalettePtr v }
  | 0x69 => { p with bgPal := p.bgPal.write p.bcps.index.toNat v, bcps := p.bcps.next }
  | 0x6A => { p with ocps := writePalettePtr v }
  | 0x6B => { p with objPal := p.objPal.write p.ocps.index.toNat v, ocps := p.ocps.next }
  | _ => p

/-- A read of a `CGB` palette register (R402). -/
def readPalette (p : Ppu) (off : Nat) : Byte :=
  match off with
  | 0x68 => readPalettePtr p.bcps
  | 0x69 => p.bgPal.read p.bcps.index.toNat
  | 0x6A => readPalettePtr p.ocps
  | 0x6B => p.objPal.read p.ocps.index.toNat
  | _ => Config.fill

end Sys2Proof.Machine
end

