-- ==== Sys2Proof/Machine/TimerUnit.lean ====
section
/-! DEFINITION. The timer (60_exceptions.md R330 to R338). -/

namespace Sys2Proof.Machine

/-- The divider bit that a rate code selects (R332). -/
def timerBitIndex (rate : BitVec 2) : Nat :=
  match rate.toNat with
  | 0 => 9
  | 1 => 3
  | 2 => 5
  | _ => 7

/-- The selected divider bit gated by the enable bit (R333). -/
def Timer.gatedBit (t : Timer) : Bool :=
  bit t.divider (timerBitIndex (t.tac.setWidth 2)) && bit t.tac 2

/-- The reload part of a tick: `TIMA <- TMA` one tick after the overflow (R334). -/
def Timer.reloadTick (t : Timer) : Timer :=
  match t.reload with
  | .reloaded => { t with reload := .idle }
  | .pending => { t with tima := t.tma, reload := .reloaded }
  | .idle => t

/-- Whether the reload part of a tick requests interrupt 2 (R334). -/
def Timer.requests (t : Timer) : Bool := t.reload == .pending

/-- The divider advances by `TCYC_PER_STEP` (R330). -/
def Timer.advance (periods : Nat) (t : Timer) : Timer :=
  { t with divider := t.divider + BitVec.ofNat 16 periods }

/-- Whether the change of the gated bit is the clocking edge (R333). -/
def timerEdgeSeen (e : TimerEdge) (before now : Bool) : Bool :=
  match e with
  | .rising => !before && now
  | .falling => before && !now

/-- One count of `TIMA`, with the overflow of R334. -/
def Timer.count (t : Timer) : Timer :=
  if t.tima = 0xFF then { t with tima := 0x00, reload := .pending } else { t with tima := t.tima + 1 }

/-- The edge detector (R333). -/
def Timer.detect (e : TimerEdge) (t : Timer) : Timer :=
  let now := t.gatedBit
  let t' := { t with bitPrev := now }
  if timerEdgeSeen e t.bitPrev now then t'.count else t'

/-- `TimerStep()` (R333). -/
def Timer.step (cfg : Config) (t : Timer) : Timer :=
  (t.reloadTick.advance cfg.tcycPerStep).detect cfg.timerEdge

/-- A write of DIV clears all 16 bits (R331). -/
def Timer.writeDiv (t : Timer) : Timer := { t with divider := 0 }

/-- A write of TIMA (R336). -/
def Timer.writeTima (t : Timer) (v : Byte) : Timer :=
  match t.reload with
  | .idle => { t with tima := v }
  | .pending => { t with tima := v, reload := .idle }
  | .reloaded => t

/-- A write of TMA; in the reload tick it reaches TIMA too (R335). -/
def Timer.writeTma (t : Timer) (v : Byte) : Timer :=
  match t.reload with
  | .reloaded => { t with tma := v, tima := v }
  | .idle => { t with tma := v }
  | .pending => { t with tma := v }

/-- A write of TAC (R332). -/
def Timer.writeTac (t : Timer) (v : Byte) : Timer := { t with tac := v.setWidth 3 }

/-- A read of DIV (R331). -/
def Timer.readDiv (t : Timer) : Byte := highByte t.divider

/-- A read of TAC: bits 7 to 3 read 1 (R332). -/
def Timer.readTac (t : Timer) : Byte := 0xF8 ||| t.tac.setWidth 8

end Sys2Proof.Machine
end

