-- ==== Sys2Proof/Machine/Router.lean ====
section
/-! DEFINITION. The Memory Router: the one path from every block to storage (20_memory.md R60 to R79, R83 to
R86), and the register windows of the blocks (10_state.md R35, 60_exceptions.md R340 to R348,
61_devices_ppu_apu.md R451 to R453). -/

namespace Sys2Proof.Machine

/-- What an address resolves to; a number is an index into the region (R66). -/
inductive Handler where
  | bootRom (i : Nat)
  | rom (i : Nat)
  | vram (i : Nat)
  | extRam (i : Nat)
  | rtc (k : Nat)
  | wram (i : Nat)
  | oam (i : Nat)
  | unmapped
  | io (off : Nat)
  | hram (i : Nat)
  | ie
deriving DecidableEq, Repr

/-- Whether the boot overlay covers address `a` (R78). -/
def overlayAt (s : State) (a : Nat) : Bool :=
  s.router.bootMapped
    && (decide (a < 0x100) || (s.cfg.rev == .cgb && decide (0x200 ≤ a) && decide (a < 0x900)))

/-- The index of an overlaid address in the boot image (R78). -/
def overlayIndex (a : Nat) : Nat := if a < 0x100 then a else a - 0x100

/-- The cartridge image and the boot overlay, for `a < 0x8000` (R66 to R68, R78, R102). With `ROM_BANKS = 0`, for which
the reduction has no value and the spec no rule, the bank stays unreduced (DESIGN CHOICE, log 5). -/
def romHandler (s : State) (a : Nat) : Handler :=
  if overlayAt s a then .bootRom (overlayIndex a)
  else if a < 0x4000 then .rom (s.cart.bank0 s.cfg % s.cfg.romBanks * 0x4000 + a)
  else .rom (s.cart.bankN s.cfg % s.cfg.romBanks * 0x4000 + (a - 0x4000))

/-- The video RAM bank the CPU sees (R69). -/
def vramBankOf (s : State) : Nat :=
  match s.cfg.rev with
  | .dmg => 0
  | .cgb => s.router.vramBank.toNat

/-- The external window, for `i = addr - 0xA000` (R70, R99). -/
def extHandler (s : State) (i : Nat) : Handler :=
  match s.cart.extWindow s.cfg with
  | .nothing => .unmapped
  | .ram bank => .extRam (bank * 0x2000 + i)
  | .clock k => .rtc k

/-- The work RAM bank in 0xD000 to 0xDFFF (R71). -/
def wramBankOf (s : State) : Nat :=
  match s.cfg.rev with
  | .dmg => 1
  | .cgb => if s.router.wramBank = 0 then 1 else s.router.wramBank.toNat

/-- Work RAM, for `i = addr - 0xC000` below 0x2000 (R66, R71). -/
def wramHandler (s : State) (i : Nat) : Handler :=
  if i < 0x1000 then .wram i else .wram (wramBankOf s * 0x1000 + (i - 0x1000))

/-- The handler of the addresses from 0x8000 on (R66). -/
def highHandler (s : State) (a : Nat) : Handler :=
  if a < 0xA000 then .vram (vramBankOf s * 0x2000 + (a - 0x8000))
  else if a < 0xC000 then extHandler s (a - 0xA000)
  else if a < 0xE000 then wramHandler s (a - 0xC000)
  else if a < 0xFE00 then wramHandler s (a - 0xE000)
  else if a < 0xFEA0 then .oam (a - 0xFE00)
  else if a < 0xFF00 then .unmapped
  else if a < 0xFF80 then .io (a - 0xFF00)
  else if a < 0xFFFF then .hram (a - 0xFF80)
  else .ie

/-- The one handler of an address (R61, R66). -/
def handler (s : State) (addr : Word) : Handler :=
  if addr.toNat < 0x8000 then romHandler s addr.toNat else highHandler s addr.toNat

/-- A read of the registers 0xFF00 to 0xFF0F (R35). -/
def readLow (s : State) (off : Nat) : Byte :=
  match off with
  | 0x00 => readP1 s.pad s.inputs.buttons
  | 0x01 => s.pad.sb
  | 0x02 => readSc s.cfg.rev s.pad
  | 0x04 => s.timer.readDiv
  | 0x05 => s.timer.tima
  | 0x06 => s.timer.tma
  | 0x07 => s.timer.readTac
  | 0x0F => irqByte s.irq.flags
  | _ => Config.fill

/-- A read of HDMA5 (R343). -/
def readHdma5 (d : Dma) : Byte := flagAt (!d.hdmaActive) 7 ||| d.hdmaBlocks.setWidth 8

/-- A read of KEY1 (R451). -/
def readKey1 (c : Cpu) : Byte := flagAt c.doubleSpeed 7 ||| 0x7E ||| flagAt c.speedArmed 0

/-- A read of a register that only `CGB` has; 0xFF51 to 0xFF54 read 0xFF (R343, R402, R451 to R453). -/
def readCgb (s : State) (off : Nat) : Byte :=
  match off with
  | 0x4D => readKey1 s.cpu
  | 0x4F => 0xFE ||| s.router.vramBank.setWidth 8
  | 0x55 => readHdma5 s.dma
  | 0x70 => 0xF8 ||| s.router.wramBank.setWidth 8
  | _ => readPalette s.ppu off

/-- A read of BOOT (R79). -/
def readBoot (r : Router) : Byte := 0xFE ||| flagAt (!r.bootMapped) 0

/-- A read of the I/O window (R75, R35). -/
def readIo (s : State) (off : Nat) : Byte :=
  if off < 0x10 then readLow s off
  else if off < 0x40 then s.apu.read off
  else if off = 0x46 then s.dma.oamDmaSrc
  else if off < 0x4C then readPpu s.cfg s.ppu off
  else if off = 0x50 then readBoot s.router
  else
    match s.cfg.rev with
    | .dmg => Config.fill
    | .cgb => readCgb s off

/-- The byte a handler returns (R62, R65). -/
def readHandler (s : State) (h : Handler) : Byte :=
  match h with
  | .bootRom i => s.store.bootRom.read i
  | .rom i => s.store.rom.read i
  | .vram i => s.store.vram.read i
  | .extRam i => s.store.extRam.read i
  | .rtc k => s.cart.rtcLatched.read k
  | .wram i => s.store.wram.read i
  | .oam i => s.store.oam.read i
  | .unmapped => Config.fill
  | .io off => readIo s off
  | .hram i => s.store.hram.read i
  | .ie => irqByte s.irq.ie

/-- `MemRead(addr, 1)` (R62): it changes no state (R83). -/
def memRead (s : State) (addr : Word) : Byte := readHandler s (handler s addr)

/-- The machine with one byte of the sprite table stored. -/
def writeOam (s : State) (i : Nat) (v : Byte) : State :=
  { s with store := { s.store with oam := s.store.oam.write i v } }

/-- The machine with one byte of video RAM stored. -/
def writeVram (s : State) (i : Nat) (v : Byte) : State :=
  { s with store := { s.store with vram := s.store.vram.write i v } }

/-- The machine with one byte of external RAM stored. -/
def writeExtRam (s : State) (i : Nat) (v : Byte) : State :=
  { s with store := { s.store with extRam := s.store.extRam.write i v } }

/-- The machine with one byte of work RAM stored. -/
def writeWram (s : State) (i : Nat) (v : Byte) : State :=
  { s with store := { s.store with wram := s.store.wram.write i v } }

/-- The machine with one byte of high RAM stored. -/
def writeHram (s : State) (i : Nat) (v : Byte) : State :=
  { s with store := { s.store with hram := s.store.hram.write i v } }

/-- The copy loop of the sprite-table DMA, `todo` bytes from index `i` on (R341). -/
def oamCopy (src : Word) : (todo i : Nat) → State → State
  | 0, _, s => s
  | todo + 1, i, s => oamCopy src todo (i + 1) (writeOam s i (memRead s (src + BitVec.ofNat 16 i)))

/-- A write of DMA: the whole sprite-table copy, inside the write (R340, R341). -/
def writeDma (s : State) (v : Byte) : State :=
  oamCopy (join v 0) 160 0 { s with dma := { s.dma with oamDmaSrc := v } }

/-- A write of the registers 0xFF00 to 0xFF0F (R84, R331 to R336, R327, R449, R450). -/
def writeLow (s : State) (off : Nat) (v : Byte) : State :=
  match off with
  | 0x00 => writeP1 s v
  | 0x01 => { s with pad := { s.pad with sb := v } }
  | 0x02 => { s with pad := writeSc s.cfg.rev s.pad v }
  | 0x04 => { s with timer := s.timer.writeDiv }
  | 0x05 => { s with timer := s.timer.writeTima v }
  | 0x06 => { s with timer := s.timer.writeTma v }
  | 0x07 => { s with timer := s.timer.writeTac v }
  | 0x0F => { s with irq := s.irq.writeFlags v }
  | _ => s

/-- A write of HDMA5 (R344, R345, R347). -/
def Dma.writeHdma5 (d : Dma) (v : Byte) : Dma :=
  if bit v 7 then
    { d with hdmaMode := .hblank, hdmaBlocks := v.setWidth 7, hdmaActive := true, hdmaBlockLeft := 0 }
  else if d.hdmaActive then
    match d.hdmaMode with
    | .hblank => { d with hdmaActive := false }
    | .general => d
  else
    { d with hdmaMode := .general, hdmaBlocks := v.setWidth 7, hdmaActive := true, hdmaBlockLeft := 16 }

/-- A write of HDMA1 to HDMA5 by low address byte (R343). -/
def Dma.writeHdma (d : Dma) (off : Nat) (v : Byte) : Dma :=
  match off with
  | 0x51 => { d with hdmaSrc := join v (lowByte d.hdmaSrc) }
  | 0x52 => { d with hdmaSrc := join (highByte d.hdmaSrc) (v &&& 0xF0) }
  | 0x53 => { d with hdmaDst := join (0x80 ||| (v &&& 0x1F)) (lowByte d.hdmaDst) }
  | 0x54 => { d with hdmaDst := join (highByte d.hdmaDst) (v &&& 0xF0) }
  | 0x55 => d.writeHdma5 v
  | _ => d

/-- A write of a register that only `CGB` has (R343, R402, R451 to R453). -/
def writeCgb (s : State) (off : Nat) (v : Byte) : State :=
  match off with
  | 0x4D => { s with cpu := { s.cpu with speedArmed := bit v 0 } }
  | 0x4F => { s with router := { s.router with vramBank := v.setWidth 1 } }
  | 0x70 => { s with router := { s.router with wramBank := v.setWidth 3 } }
  | _ =>
    if off < 0x60 then { s with dma := s.dma.writeHdma off v }
    else { s with ppu := writePalette s.ppu off v }

/-- A write of BOOT: one-shot (R79). -/
def writeBoot (s : State) (v : Byte) : State :=
  { s with router := { s.router with bootMapped := s.router.bootMapped && !bit v 0 } }

/-- A write of a sound register. -/
def writeApu (s : State) (off : Nat) (v : Byte) : State := { s with apu := s.apu.write s.cfg off v }

/-- A write of the I/O window (R75, R84). -/
def writeIo (s : State) (off : Nat) (v : Byte) : State :=
  if off < 0x10 then writeLow s off v
  else if off < 0x40 then writeApu s off v
  else if off = 0x46 then writeDma s v
  else if off < 0x4C then writePpu s off v
  else if off = 0x50 then writeBoot s v
  else
    match s.cfg.rev with
    | .dmg => s
    | .cgb => writeCgb s off v

/-- A write to the Bank Controller, for `a < 0x8000` (R94). -/
def writeController (s : State) (a : Nat) (v : Byte) : State :=
  { s with cart := s.cart.write s.cfg a v }

/-- What a handler does with a byte from address `addr` (R63); video RAM and the sprite table discard it
while the pipeline reads them (R85). -/
def writeHandler (s : State) (h : Handler) (addr : Word) (v : Byte) : State :=
  match h with
  | .bootRom _ => writeController s addr.toNat v
  | .rom _ => writeController s addr.toNat v
  | .vram i => if vramBlocked s.ppu then s else writeVram s i v
  | .extRam i => writeExtRam s i v
  | .rtc k => { s with cart := s.cart.writeClock k v }
  | .wram i => writeWram s i v
  | .oam i => if oamBlocked s.ppu then s else writeOam s i v
  | .unmapped => s
  | .io off => writeIo s off v
  | .hram i => writeHram s i v
  | .ie => { s with irq := s.irq.writeEnable v }

/-- `MemWrite(addr, 1, v)` (R63). -/
def memWrite (s : State) (addr : Word) (v : Byte) : State := writeHandler s (handler s addr) addr v

/-- Whether an address resolves to plain storage, where `poke` can place a byte. -/
def Handler.isStorage (h : Handler) : Bool :=
  match h with
  | .bootRom _ => true
  | .rom _ => true
  | .vram _ => true
  | .extRam _ => true
  | .rtc _ => false
  | .wram _ => true
  | .oam _ => true
  | .unmapped => false
  | .io _ => false
  | .hram _ => true
  | .ie => false

/-- Place a byte in the storage cell behind an address from outside the machine (the launch of R476):
no instruction does this. -/
def poke (s : State) (addr : Word) (v : Byte) : State :=
  match handler s addr with
  | .bootRom i => { s with store := { s.store with bootRom := s.store.bootRom.write i v } }
  | .rom i => { s with store := { s.store with rom := s.store.rom.write i v } }
  | .vram i => writeVram s i v
  | .extRam i => writeExtRam s i v
  | .rtc _ => s
  | .wram i => writeWram s i v
  | .oam i => writeOam s i v
  | .unmapped => s
  | .io _ => s
  | .hram i => writeHram s i v
  | .ie => s

end Sys2Proof.Machine
end

