-- ==== Sys2Proof/Machine/DmaUnit.lean ====
section
/-! DEFINITION. The bulk copy engine and the subsystem's step (60_exceptions.md R343 to R349). -/

namespace Sys2Proof.Machine

/-- `hdma_dst + 1`, wrapping inside 0x8000 to 0x9FFF (R344). -/
def nextDst (d : BitVec 16) : BitVec 16 := 0x8000 ||| ((d + 1) &&& 0x1FFF)

/-- One byte of the bulk copy, straight into the current bank of video RAM (R344, R85). -/
def copyByte (s : State) : State :=
  let v := memRead s s.dma.hdmaSrc
  let t := writeVram s (vramBankOf s * 0x2000 + (s.dma.hdmaDst &&& 0x1FFF).toNat) v
  { t with dma := { t.dma with
      hdmaSrc := t.dma.hdmaSrc + 1
      hdmaDst := nextDst t.dma.hdmaDst
      hdmaBlockLeft := t.dma.hdmaBlockLeft - 1 } }

/-- Up to `n` bytes, none past the end of the block (R349; log 5 for an `n` that does not divide the block). -/
def copyBytes : Nat → State → State
  | 0, s => s
  | n + 1, s => if s.dma.hdmaBlockLeft = 0 then s else copyBytes n (copyByte s)

/-- The end of a block (R349). -/
def Dma.endBlock (d : Dma) : Dma :=
  if d.hdmaBlocks = 0 then { d with hdmaActive := false, hdmaBlocks := 0x7F }
  else
    { d with
      hdmaBlocks := d.hdmaBlocks - 1
      hdmaBlockLeft := if d.hdmaMode = .general ∧ d.hdmaActive = true then 16 else 0 }

/-- The engine after a tick's bytes: it stalls the processor, and may have finished its block (R349). -/
def Dma.afterBytes (d : Dma) : Dma :=
  let d' := { d with cpuStall := true }
  if d'.hdmaBlockLeft = 0 then d'.endBlock else d'

/-- The machine with the processor not stalled. -/
def releaseCpu (s : State) : State := { s with dma := { s.dma with cpuStall := false } }

/-- `DmaStep()` (R349). -/
def dmaStep (s : State) : State :=
  if s.dma.hdmaBlockLeft = 0 then releaseCpu s
  else
    let t := copyBytes s.cfg.hdmaBytesPerCycle s
    { t with dma := t.dma.afterBytes }

/-- `TimerStep()` with its interrupt request (R333, R334). -/
def timerStep (s : State) : State :=
  { s with
    timer := s.timer.step s.cfg
    irq := s.irq.requestIf s.timer.requests 2 }

/-- `TimerDmaStep()` (R349). -/
def timerDmaStep (s : State) : State :=
  match s.cfg.rev with
  | .dmg => releaseCpu (timerStep s)
  | .cgb => dmaStep (timerStep s)

end Sys2Proof.Machine
end

