-- ==== Sys2Proof/Machine/Clock.lean ====
section
/-! DEFINITION. What surrounds the processor's part of a machine cycle (40_execution_engine.md R140, R150):
the blocks before it and the block after it. -/

namespace Sys2Proof.Machine

/-- `ApuStep()`; the sequencer counts `FS_PERIOD` single-speed machine cycles (61_devices_ppu_apu.md R430, R443). -/
def apuStep (s : State) : State :=
  { s with
    apu := s.apu.step (s.cfg.tcycPerStep * s.cfg.fsPeriod) (periodsPerTick s.cfg s.cpu)
    audio := s.audio.step s.cfg (periodsPerTick s.cfg s.cpu) s.apu.mix }

/-- The part of `Tick()` before the processor, after the host's turn between ticks (R140, R477). -/
def tickHead (s : State) : State := timerDmaStep (apuStep (hostPhase s))

/-- The part of `Tick()` after the processor (R140). -/
def endTick (s : State) : State := ppuStep s

/-- Let stalled ticks pass, at most `fuel` of them, until the processor may step (R150). -/
def awaitCpu : (fuel : Nat) → State → State
  | 0, s => s
  | fuel + 1, s => if s.dma.cpuStall then awaitCpu fuel (tickHead (endTick s)) else s

/-- As many ticks as the bulk copy engine can stall in a row: 128 blocks of 16 bytes, at the lowest rate one byte a
tick (R344; log 7). -/
def stallFuel : Nat := 2048

/-- The machine from the start of a tick to the point where the processor steps, in this tick or, when
it is stalled, in the first later tick in which it is not (R150). -/
def beginTick (s : State) : State := awaitCpu stallFuel (tickHead s)

/-- From one machine cycle of the processor to the next: the rest of this tick and the head of the next
one in which the processor steps (R140, R150). -/
def nextCycle (s : State) : State := beginTick (endTick s)

end Sys2Proof.Machine
end

