-- ==== Sys2Proof/Names.lean ====
section
/-! DEFINITION. The operand names of the instruction set (30_encoding.md R123 to R126) and the
instruction forms, one per instruction rule, that the rows of the opcode table instantiate. -/

namespace Sys2Proof

/-- The 8-bit operand table `r[i]` without its index 6, which is the memory byte at `HL` (R123). -/
inductive Reg8 where
  | b | c | d | e | h | l | a
deriving DecidableEq, Repr

/-- The 16-bit operand table `rp[p]` (R124). -/
inductive RegPair where
  | bc | de | hl | sp
deriving DecidableEq, Repr

/-- The 16-bit operand table `rp2[p]` of `PUSH` and `POP` (R125). -/
inductive StackPair where
  | bc | de | hl | af
deriving DecidableEq, Repr

/-- The condition table `cc[i]` (R126, R281). -/
inductive Cond where
  | nz | z | nc | c
deriving DecidableEq, Repr

/-- The accumulator operations `alu[y]` (R126). -/
inductive AluOp where
  | add | adc | sub | sbc | and | xor | or | cp
deriving DecidableEq, Repr

/-- The one-bit operations `rot[y]` (R126, R245). -/
inductive RotOp where
  | rlc | rrc | rl | rr | sla | sra | swap | srl
deriving DecidableEq, Repr

/-- The instruction forms: what an opcode selects, with the operands the opcode itself names and
without the immediates that follow it. One form per instruction rule R170 to R301. -/
inductive Form where
  | nop | halt | stop | di | ei | prefixCb | undefined
  | ldRR (dst src : Reg8) | ldRN (dst : Reg8) | ldRHl (dst : Reg8) | ldHlR (src : Reg8) | ldHlN
  | ldABc | ldADe | ldBcA | ldDeA | ldANn | ldNnA
  | ldhAC | ldhCA | ldhAN | ldhNA | ldAHld | ldHldA | ldAHli | ldHliA
  | ldRrNn (p : RegPair) | ldNnSp | ldSpHl | push (p : StackPair) | pop (p : StackPair) | ldHlSpE
  | aluR (o : AluOp) (r : Reg8) | aluHl (o : AluOp) | aluN (o : AluOp)
  | incR (r : Reg8) | incHl | decR (r : Reg8) | decHl
  | daa | cpl | scf | ccf
  | addHlRr (p : RegPair) | incRr (p : RegPair) | decRr (p : RegPair) | addSpE
  | rlca | rrca | rla | rra
  | rotR (o : RotOp) (r : Reg8) | rotHl (o : RotOp)
  | bitR (k : Fin 8) (r : Reg8) | bitHl (k : Fin 8)
  | resR (k : Fin 8) (r : Reg8) | resHl (k : Fin 8)
  | setR (k : Fin 8) (r : Reg8) | setHl (k : Fin 8)
  | jpNn | jpCcNn (cc : Cond) | jpHl | jrE | jrCcE (cc : Cond)
  | callNn | callCcNn (cc : Cond) | ret | retCc (cc : Cond) | reti | rst (t : Fin 8)
deriving DecidableEq, Repr

end Sys2Proof
end

