-- ==== Sys2Proof/Machine/Operands.lean ====
section
/-! DEFINITION. The register operands of the instruction set and the flags byte (10_state.md R10 to R16;
30_encoding.md R123 to R126). -/

namespace Sys2Proof.Machine

/-- `x[r]` (R123). -/
def Regs.get (x : Regs) (r : Reg8) : Byte :=
  match r with
  | .b => x.b
  | .c => x.c
  | .d => x.d
  | .e => x.e
  | .h => x.h
  | .l => x.l
  | .a => x.a

/-- `x[r] <- v` (R123). -/
def Regs.set (x : Regs) (r : Reg8) (v : Byte) : Regs :=
  match r with
  | .b => { x with b := v }
  | .c => { x with c := v }
  | .d => { x with d := v }
  | .e => { x with e := v }
  | .h => { x with h := v }
  | .l => { x with l := v }
  | .a => { x with a := v }

/-- A write of the flags byte: bits 3 to 0 ignore it (R13). -/
def Regs.setF (x : Regs) (v : Byte) : Regs := { x with f := v &&& 0xF0 }

/-- `x[HL]` (R12). -/
def Regs.hl (x : Regs) : Word := join x.h x.l

/-- `x[rr]` for `rp[p]` (R12, R124). -/
def Regs.getPair (x : Regs) (p : RegPair) : Word :=
  match p with
  | .bc => join x.b x.c
  | .de => join x.d x.e
  | .hl => x.hl
  | .sp => x.sp

/-- `x[rr] <- v` for `rp[p]`: a write to a pair writes both bytes (R12, R124). -/
def Regs.setPair (x : Regs) (p : RegPair) (v : Word) : Regs :=
  match p with
  | .bc => { x with b := highByte v, c := lowByte v }
  | .de => { x with d := highByte v, e := lowByte v }
  | .hl => { x with h := highByte v, l := lowByte v }
  | .sp => { x with sp := v }

/-- `x[rr]` for `rp2[p]` (R125). -/
def Regs.getStackPair (x : Regs) (p : StackPair) : Word :=
  match p with
  | .bc => join x.b x.c
  | .de => join x.d x.e
  | .hl => x.hl
  | .af => join x.a x.f

/-- `x[rr] <- v` for `rp2[p]`; `F` takes the upper nibble only (R125, R194). -/
def Regs.setStackPair (x : Regs) (p : StackPair) (v : Word) : Regs :=
  match p with
  | .bc => { x with b := highByte v, c := lowByte v }
  | .de => { x with d := highByte v, e := lowByte v }
  | .hl => { x with h := highByte v, l := lowByte v }
  | .af => { x with a := highByte v }.setF (lowByte v)

/-- `F.Z` (R13). -/
def Regs.flagZ (x : Regs) : Bool := bit x.f 7

/-- `F.N` (R13). -/
def Regs.flagN (x : Regs) : Bool := bit x.f 6

/-- `F.H` (R13). -/
def Regs.flagH (x : Regs) : Bool := bit x.f 5

/-- `F.C` (R13). -/
def Regs.flagC (x : Regs) : Bool := bit x.f 4

/-- The flags byte with the four flags in bits 7 to 4 (R13). -/
def flagsByte (z n h c : Bool) : Byte := flagAt z 7 ||| flagAt n 6 ||| flagAt h 5 ||| flagAt c 4

/-- Whether a condition holds (R126, R281). -/
def Regs.holds (x : Regs) (cc : Cond) : Bool :=
  match cc with
  | .nz => !x.flagZ
  | .z => x.flagZ
  | .nc => !x.flagC
  | .c => x.flagC

/-- The machine with its register file replaced. -/
def State.withRegs (s : State) (x : Regs) : State := { s with regs := x }

/-- The machine with its program counter replaced. -/
def State.setPc (s : State) (v : Word) : State := s.withRegs { s.regs with pc := v }

/-- The machine with its stack pointer replaced. -/
def State.setSp (s : State) (v : Word) : State := s.withRegs { s.regs with sp := v }

/-- The machine with one register replaced. -/
def State.setReg (s : State) (r : Reg8) (v : Byte) : State := s.withRegs (s.regs.set r v)

/-- The machine with the processor's control state replaced. -/
def State.withCpu (s : State) (c : Cpu) : State := { s with cpu := c }

/-- The machine with `tmp8` replaced (R18). -/
def State.withTmp8 (s : State) (v : Byte) : State := s.withCpu { s.cpu with tmp8 := v }

/-- The machine with `tmp16` replaced (R18). -/
def State.withTmp16 (s : State) (v : Word) : State := s.withCpu { s.cpu with tmp16 := v }

/-- The machine in another state of the processor's state machine (R17). -/
def State.withCpuState (s : State) (c : CpuState) : State := s.withCpu { s.cpu with cpuState := c }

end Sys2Proof.Machine
end

