-- ==== Sys2Proof/Machine/Flags.lean ====
section
/-! DEFINITION. Arithmetic, logic, shifts and their flags on the register file (43_alu8.md R200 to R234,
44_alu16.md R240 to R244, 45_rotate_shift_bit.md R245 to R272). -/

namespace Sys2Proof.Machine

/-- An 8-bit result with its four flags. -/
structure Flagged where
  value : Byte
  z : Bool
  n : Bool
  h : Bool
  c : Bool
deriving DecidableEq, Repr

/-- The flags byte of a result (R13). -/
def Flagged.byte (x : Flagged) : Byte := flagsByte x.z x.n x.h x.c

/-- `Add8(a, b, cin)` (R200). -/
def add8 (a b : Byte) (cin : Bool) : Flagged :=
  let v := BitVec.ofNat 8 (a.toNat + b.toNat + boolNat cin)
  { value := v
    z := v == 0
    n := false
    h := decide (15 < a.toNat % 16 + b.toNat % 16 + boolNat cin)
    c := decide (255 < a.toNat + b.toNat + boolNat cin) }

/-- `Sub8(a, b, cin)` (R201). -/
def sub8 (a b : Byte) (cin : Bool) : Flagged :=
  let v := a - b - BitVec.ofNat 8 (boolNat cin)
  { value := v
    z := v == 0
    n := true
    h := decide (a.toNat % 16 < b.toNat % 16 + boolNat cin)
    c := decide (a.toNat < b.toNat + boolNat cin) }

/-- A logic result: `Z` by the result, `N` and `C` 0, `H` as given (R215 to R223). -/
def logic8 (v : Byte) (h : Bool) : Flagged where
  value := v
  z := v == 0
  n := false
  h := h
  c := false

/-- `alu[y]` on the accumulator `a`, the operand `v` and the carry (R126, R203 to R226). -/
def aluResult (o : AluOp) (a v : Byte) (carry : Bool) : Flagged :=
  match o with
  | .add => add8 a v false
  | .adc => add8 a v carry
  | .sub => sub8 a v false
  | .sbc => sub8 a v carry
  | .and => logic8 (a &&& v) true
  | .xor => logic8 (a ^^^ v) false
  | .or => logic8 (a ||| v) false
  | .cp => sub8 a v false

/-- Whether an accumulator operation writes `A`: all but `CP` (R224). -/
def aluWritesA (o : AluOp) : Bool :=
  match o with
  | .add => true
  | .adc => true
  | .sub => true
  | .sbc => true
  | .and => true
  | .xor => true
  | .or => true
  | .cp => false

/-- An accumulator operation (R202). -/
def Regs.alu (x : Regs) (o : AluOp) (v : Byte) : Regs :=
  let q := aluResult o x.a v x.flagC
  { x with a := if aluWritesA o then q.value else x.a, f := q.byte }

/-- `v + 1` with the flags of `INC` (R227). -/
def inc8 (v : Byte) (carry : Bool) : Flagged where
  value := v + 1
  z := v + 1 == 0
  n := false
  h := v &&& 0x0F == 0x0F
  c := carry

/-- `v - 1` with the flags of `DEC` (R229). -/
def dec8 (v : Byte) (carry : Bool) : Flagged where
  value := v - 1
  z := v - 1 == 0
  n := true
  h := v &&& 0x0F == 0
  c := carry

/-- The register file with a result's flags. -/
def Regs.withFlags (x : Regs) (q : Flagged) : Regs := { x with f := q.byte }

/-- `INC r` (R227). -/
def Regs.incReg (x : Regs) (r : Reg8) : Regs :=
  let q := inc8 (x.get r) x.flagC
  (x.set r q.value).withFlags q

/-- `DEC r` (R229). -/
def Regs.decReg (x : Regs) (r : Reg8) : Regs :=
  let q := dec8 (x.get r) x.flagC
  (x.set r q.value).withFlags q

/-- The adjustment of `DAA` and its carry (R231). -/
def daaAdjust (a : Byte) (n h c : Bool) : Byte × Bool :=
  if n then ((if h then 0x06 else 0) ||| (if c then 0x60 else 0), c)
  else
    ((if h || decide (9 < a.toNat % 16) then 0x06 else 0)
        ||| (if c || decide (0x99 < a.toNat) then 0x60 else 0),
      c || decide (0x99 < a.toNat))

/-- `DAA` on the accumulator and the flags (R231). -/
def daa8 (a : Byte) (n h c : Bool) : Flagged :=
  let adj := daaAdjust a n h c
  let v := if n then a - adj.1 else a + adj.1
  { value := v, z := v == 0, n := n, h := false, c := adj.2 }

/-- `DAA` (R231). -/
def Regs.daa (x : Regs) : Regs :=
  let q := daa8 x.a x.flagN x.flagH x.flagC
  { x with a := q.value, f := q.byte }

/-- `CPL` (R232). -/
def Regs.cpl (x : Regs) : Regs := { x with a := ~~~x.a, f := flagsByte x.flagZ true true x.flagC }

/-- `SCF` (R233). -/
def Regs.scf (x : Regs) : Regs := { x with f := flagsByte x.flagZ false false true }

/-- `CCF` (R234). -/
def Regs.ccf (x : Regs) : Regs := { x with f := flagsByte x.flagZ false false (!x.flagC) }

/-- `ADD HL,rr` (R240). -/
def Regs.addHl (x : Regs) (p : RegPair) : Regs :=
  let a := x.hl
  let b := x.getPair p
  { x.setPair .hl (a + b) with
    f := flagsByte x.flagZ false
      (decide (0xFFF < a.toNat % 0x1000 + b.toNat % 0x1000)) (decide (0xFFFF < a.toNat + b.toNat)) }

/-- The 16-bit result of `AddSpE(s, e)` (R244). -/
def addSpValue (s : Word) (e : Byte) : Word := s + sext16 e

/-- The flags of `AddSpE(s, e)` (R244). -/
def addSpFlags (s : Word) (e : Byte) : Byte :=
  flagsByte false false
    (decide (0xF < s.toNat % 16 + e.toNat % 16)) (decide (0xFF < s.toNat % 256 + e.toNat))

/-- `ADD SP,e` (R243). -/
def Regs.addSp (x : Regs) (e : Byte) : Regs :=
  { x with sp := addSpValue x.sp e, f := addSpFlags x.sp e }

/-- `LD HL,SP+e` (R195). -/
def Regs.ldHlSp (x : Regs) (e : Byte) : Regs :=
  { x.setPair .hl (addSpValue x.sp e) with f := addSpFlags x.sp e }

/-- A shifted byte and its carry out. -/
structure Shifted where
  value : Byte
  carry : Bool
deriving DecidableEq, Repr

/-- `rot[y]` on a byte and the carry flag (R245). -/
def rotResult (o : RotOp) (v : Byte) (c : Bool) : Shifted :=
  match o with
  | .rlc => { value := (v <<< 1) ||| (v >>> 7), carry := bit v 7 }
  | .rrc => { value := (v >>> 1) ||| (v <<< 7), carry := bit v 0 }
  | .rl => { value := (v <<< 1) ||| flagAt c 0, carry := bit v 7 }
  | .rr => { value := (v >>> 1) ||| flagAt c 7, carry := bit v 0 }
  | .sla => { value := v <<< 1, carry := bit v 7 }
  | .sra => { value := (v >>> 1) ||| (v &&& 0x80), carry := bit v 0 }
  | .swap => { value := (v <<< 4) ||| (v >>> 4), carry := false }
  | .srl => { value := v >>> 1, carry := bit v 0 }

/-- The flags of a second-table rotate or shift: `Z` by the result (R251 to R266). -/
def Shifted.flags (q : Shifted) : Byte := flagsByte (q.value == 0) false false q.carry

/-- `rot[y] r` (R251 to R265). -/
def Regs.rotReg (x : Regs) (o : RotOp) (r : Reg8) : Regs :=
  let q := rotResult o (x.get r) x.flagC
  { x.set r q.value with f := q.flags }

/-- An accumulator rotate: `Z` is cleared (R246 to R249). -/
def Regs.rotA (x : Regs) (o : RotOp) : Regs :=
  let q := rotResult o x.a x.flagC
  { x with a := q.value, f := flagsByte false false false q.carry }

/-- The flags of `BIT b` on a byte (R267). -/
def Regs.testBit (x : Regs) (k : Fin 8) (v : Byte) : Regs :=
  { x with f := flagsByte (!bit v k.val) false true x.flagC }

/-- `RES b` on a byte (R269). -/
def clearBit (k : Fin 8) (v : Byte) : Byte := v &&& ~~~((1 : Byte) <<< k.val)

/-- `SET b` on a byte (R271). -/
def setBit (k : Fin 8) (v : Byte) : Byte := v ||| ((1 : Byte) <<< k.val)

end Sys2Proof.Machine
end

