-- ==== Sys2Proof/Machine/Ops.lean ====
section
/-! DEFINITION. The primitive steps of the instruction sequences (40_execution_engine.md R142, R144, R147,
R148), taking an interrupt and the return from one (60_exceptions.md R320, R322, 46_control_transfer.md
R291), and the one exception (60_exceptions.md R311). A primitive is one machine cycle of the processor. -/

namespace Sys2Proof.Machine

/-- A primitive step: its effect, and whether the remaining primitives are skipped after it (R148). -/
structure Micro where
  act : State → State
  stops : State → Bool

/-- A primitive after which the sequence always goes on. -/
def Micro.of (f : State → State) : Micro where
  act := f
  stops := fun _ => false

/-- A primitive after which the sequence ends unless the condition holds (R148). -/
def Micro.unless (f : State → State) (cc : Cond) : Micro where
  act := f
  stops := fun s => !s.regs.holds cc

/-- A cycle with no effect of its own: `internal` (R147). -/
def Micro.idle : Micro := Micro.of id

/-- Run primitives, each in a machine cycle of its own, until one stops. -/
def runRest : List Micro → State → State
  | [], s => s
  | m :: rest, s =>
    let t := m.act (nextCycle s)
    if m.stops t then t else runRest rest t

/-- Run a sequence whose first primitive shares the current machine cycle, that of the last fetch
(decision D12); the others follow in cycles of their own. The current cycle's rest is not run. -/
def runSeq : List Micro → State → State
  | [], s => s
  | m :: rest, s =>
    let t := m.act s
    if m.stops t then t else runRest rest t

/-- `Fetch8()`: the byte at `pc`, which advances (R15). -/
def fetch8 (s : State) : Byte × State := (memRead s s.regs.pc, s.setPc (s.regs.pc + 1))

/-- The opcode fetch of `M1`; with `halt_bug` the fetch clears the bit and `pc` stays (R144, R19). -/
def fetchOpcode (s : State) : State :=
  let op := memRead s s.regs.pc
  let c := { s.cpu with haltBug := false, ir := op, cb := false, useq := op.setWidth 9, upos := 0 }
  { s with
    regs := { s.regs with pc := if s.cpu.haltBug then s.regs.pc else s.regs.pc + 1 }
    cpu := c }

/-- The second fetch after the prefix (R144, R300). -/
def fetchPrefixed (s : State) : State :=
  let op := memRead s s.regs.pc
  { s with
    regs := { s.regs with pc := s.regs.pc + 1 }
    cpu := { s.cpu with ir := op, cb := true, useq := 0x100 ||| op.setWidth 9 } }

/-- `tmp8 <- Fetch8()` (R147). -/
def fetchTemp8 (s : State) : State := ((fetch8 s).2).withTmp8 (fetch8 s).1

/-- `tmp16[7:0] <- Fetch8()` (R147). -/
def fetchTempLow (s : State) : State :=
  ((fetch8 s).2).withTmp16 (join (highByte s.cpu.tmp16) (fetch8 s).1)

/-- `tmp16[15:8] <- Fetch8()` (R147). -/
def fetchTempHigh (s : State) : State :=
  ((fetch8 s).2).withTmp16 (join (fetch8 s).1 (lowByte s.cpu.tmp16))

/-- read-from-address-into-temp (R147). -/
def readTemp (s : State) (a : Word) : State := s.withTmp8 (memRead s a)

/-- `sp <- sp - 1; MemWrite(sp, 1, v)` (R14, R193). -/
def pushByte (s : State) (v : Byte) : State := memWrite (s.setSp (s.regs.sp - 1)) (s.regs.sp - 1) v

/-- Push of the high byte of `pc`, the first of the two. -/
def pushPcHigh (s : State) : State := pushByte s (highByte s.regs.pc)

/-- Push of the low byte of `pc`. -/
def pushPcLow (s : State) : State := pushByte s (lowByte s.regs.pc)

/-- `tmp16[7:0] <- MemRead(sp, 1); sp <- sp + 1` (R194). -/
def popLow (s : State) : State :=
  (s.withTmp16 (join (highByte s.cpu.tmp16) (memRead s s.regs.sp))).setSp (s.regs.sp + 1)

/-- `tmp16[15:8] <- MemRead(sp, 1); sp <- sp + 1` (R194). -/
def popHigh (s : State) : State :=
  (s.withTmp16 (join (memRead s s.regs.sp) (lowByte s.cpu.tmp16))).setSp (s.regs.sp + 1)

/-- `pc <- tmp16`. -/
def jumpTemp (s : State) : State := s.setPc s.cpu.tmp16

/-- Whether an interrupt is accepted at a boundary (R318). -/
def accepts (s : State) : Bool := s.cpu.ime && decide (s.irq.pending ≠ 0)

/-- Cycle `I1`: choose the source, clear its flag, clear `IME`, name the vector (R319, R320). -/
def irqSelect (s : State) : State :=
  let k := lowestBit s.irq.pending
  { s with
    irq := s.irq.clear k
    cpu := { s.cpu with
      ime := false, imePending := false, cpuState := .servicingInterrupt, upos := 0
      tmp16 := vectorOf k } }

/-- Cycle `I5`: the jump to the vector (R320). -/
def irqJump (s : State) : State := (jumpTemp s).withCpuState .fetchingOpcode

/-- TAKING AN INTERRUPT: the cycles `I1` to `I5` (R320), `IRQ_ENTRY_CYCLES` of them. Another count than the spec's
5 makes the internal part `I2` longer or shorter, down to nothing (DESIGN CHOICE, log 5). -/
def irqSeq (cycles : Nat) : List Micro :=
  Micro.of irqSelect :: (List.replicate (cycles - 4) Micro.idle
    ++ [Micro.of pushPcHigh, Micro.of pushPcLow, Micro.of irqJump])

/-- Interrupt entry from a boundary, inside its first cycle, up to the end of its last (R320). -/
def takeInterrupt (s : State) : State := runSeq (irqSeq s.cfg.irqEntryCycles) s

/-- Cycle `M4` of `RETI`: `pc <- tmp16; IME <- 1; ime_pending <- 0` (R291). -/
def returnJump (s : State) : State :=
  let t := jumpTemp s
  t.withCpu { t.cpu with ime := true, imePending := false }

/-- THE RETURN FROM AN INTERRUPT, after its fetch: pop `pc`, set `IME` (R291, R322). -/
def retiSeq : List Micro :=
  [Micro.idle, Micro.of popLow, Micro.of popHigh, Micro.of returnJump]

/-- THE ONE EXCEPTION, `raise UnsupportedOpcode(op)`: `cpu_fault <- 1`, `ir` holds the byte, nothing else
changes (R152, R311). -/
def raiseUnsupported (op : Byte) (s : State) : State :=
  s.withCpu { s.cpu with cpuFault := true, ir := op }

/-- The enable latency of `EI`: the boundary moves `ime_pending` into `IME` after its test (R145, R16). -/
def movePending (s : State) : State :=
  if s.cpu.imePending then s.withCpu { s.cpu with ime := true, imePending := false } else s

/-- What leaving `halted` does before the boundary (R154, R159, R296). -/
def wakeHalted (s : State) : State :=
  let t := s.withCpuState .fetchingOpcode
  match s.cfg.haltBugScope with
  | .anyWakeWithIme0 => t.withCpu { t.cpu with haltBug := t.cpu.haltBug || !t.cpu.ime }
  | .onlyIfPendingAtHalt => t

end Sys2Proof.Machine
end

