-- ==== Sys2Proof/Machine/Alu16.lean ====
section
/-! DEFINITION. 16-bit arithmetic (44_alu16.md R240 to R244): the sequences, then one meaning per opcode
row. -/

namespace Sys2Proof.Machine

/-- `ADD HL,rr` (R240). -/
def seqAddHlRr (p : RegPair) : List Micro :=
  [Micro.idle, Micro.of fun s => s.withRegs (s.regs.addHl p)]

/-- `INC rr` (R241). -/
def seqIncRr (p : RegPair) : List Micro :=
  [Micro.idle, Micro.of fun s => s.withRegs (s.regs.setPair p (s.regs.getPair p + 1))]

/-- `DEC rr` (R242). -/
def seqDecRr (p : RegPair) : List Micro :=
  [Micro.idle, Micro.of fun s => s.withRegs (s.regs.setPair p (s.regs.getPair p - 1))]

/-- `ADD SP,e` (R243). -/
def seqAddSpE : List Micro :=
  [Micro.idle, Micro.idle, Micro.of fun s => s.withRegs (s.regs.addSp s.cpu.tmp8)]

/-- `INC BC` (R241). -/
def execInc_BC (s : State) : Answer := .next (runSeq (seqIncRr .bc) s)

/-- `ADD HL,BC` (R240). -/
def execAdd_HL_BC (s : State) : Answer := .next (runSeq (seqAddHlRr .bc) s)

/-- `DEC BC` (R242). -/
def execDec_BC (s : State) : Answer := .next (runSeq (seqDecRr .bc) s)

/-- `INC DE` (R241). -/
def execInc_DE (s : State) : Answer := .next (runSeq (seqIncRr .de) s)

/-- `ADD HL,DE` (R240). -/
def execAdd_HL_DE (s : State) : Answer := .next (runSeq (seqAddHlRr .de) s)

/-- `DEC DE` (R242). -/
def execDec_DE (s : State) : Answer := .next (runSeq (seqDecRr .de) s)

/-- `INC HL` (R241). -/
def execInc_HL (s : State) : Answer := .next (runSeq (seqIncRr .hl) s)

/-- `ADD HL,HL` (R240). -/
def execAdd_HL_HL (s : State) : Answer := .next (runSeq (seqAddHlRr .hl) s)

/-- `DEC HL` (R242). -/
def execDec_HL (s : State) : Answer := .next (runSeq (seqDecRr .hl) s)

/-- `INC SP` (R241). -/
def execInc_SP (s : State) : Answer := .next (runSeq (seqIncRr .sp) s)

/-- `ADD HL,SP` (R240). -/
def execAdd_HL_SP (s : State) : Answer := .next (runSeq (seqAddHlRr .sp) s)

/-- `DEC SP` (R242). -/
def execDec_SP (s : State) : Answer := .next (runSeq (seqDecRr .sp) s)

/-- `ADD SP,e` (R243). -/
def execAdd_SP_e (e : Byte) (s : State) : Answer := .next (runSeq seqAddSpE (s.withTmp8 e))

end Sys2Proof.Machine
end

