-- ==== Sys2Proof/Machine/Alu8.lean ====
section
/-! DEFINITION. 8-bit arithmetic and logic (43_alu8.md R200 to R235): the sequences, then one meaning per
opcode row. -/

namespace Sys2Proof.Machine

/-- An accumulator operation on `tmp8` (R202). -/
def aluTemp (o : AluOp) (s : State) : State := s.withRegs (s.regs.alu o s.cpu.tmp8)

/-- The machine with a result's flags. -/
def State.withFlags (s : State) (q : Flagged) : State := s.withRegs (s.regs.withFlags q)

/-- Register form (R202). -/
def seqAluR (o : AluOp) (r : Reg8) : List Micro :=
  [Micro.of fun s => s.withRegs (s.regs.alu o (s.regs.get r))]

/-- Memory form (R202). -/
def seqAluHl (o : AluOp) : List Micro :=
  [Micro.idle, Micro.of fun s => aluTemp o (readTemp s s.regs.hl)]

/-- Immediate form (R202). -/
def seqAluN (o : AluOp) : List Micro := [Micro.of (aluTemp o)]

/-- `INC r` (R227). -/
def seqIncR (r : Reg8) : List Micro := [Micro.of fun s => s.withRegs (s.regs.incReg r)]

/-- `INC (HL)`: the flags are those of the byte read (R228). -/
def seqIncHl : List Micro :=
  [Micro.idle,
   Micro.of fun s => readTemp s s.regs.hl,
   Micro.of fun s =>
    let q := inc8 s.cpu.tmp8 s.regs.flagC
    (memWrite s s.regs.hl q.value).withFlags q]

/-- `DEC r` (R229). -/
def seqDecR (r : Reg8) : List Micro := [Micro.of fun s => s.withRegs (s.regs.decReg r)]

/-- `DEC (HL)` (R230). -/
def seqDecHl : List Micro :=
  [Micro.idle,
   Micro.of fun s => readTemp s s.regs.hl,
   Micro.of fun s =>
    let q := dec8 s.cpu.tmp8 s.regs.flagC
    (memWrite s s.regs.hl q.value).withFlags q]

/-- `DAA` (R231). -/
def seqDaa : List Micro := [Micro.of fun s => s.withRegs s.regs.daa]

/-- `CPL` (R232). -/
def seqCpl : List Micro := [Micro.of fun s => s.withRegs s.regs.cpl]

/-- `SCF` (R233). -/
def seqScf : List Micro := [Micro.of fun s => s.withRegs s.regs.scf]

/-- `CCF` (R234). -/
def seqCcf : List Micro := [Micro.of fun s => s.withRegs s.regs.ccf]

/-- `INC B` (R227). -/
def execInc_B (s : State) : Answer := .next (runSeq (seqIncR .b) s)

/-- `DEC B` (R229). -/
def execDec_B (s : State) : Answer := .next (runSeq (seqDecR .b) s)

/-- `INC C` (R227). -/
def execInc_C (s : State) : Answer := .next (runSeq (seqIncR .c) s)

/-- `DEC C` (R229). -/
def execDec_C (s : State) : Answer := .next (runSeq (seqDecR .c) s)

/-- `INC D` (R227). -/
def execInc_D (s : State) : Answer := .next (runSeq (seqIncR .d) s)

/-- `DEC D` (R229). -/
def execDec_D (s : State) : Answer := .next (runSeq (seqDecR .d) s)

/-- `INC E` (R227). -/
def execInc_E (s : State) : Answer := .next (runSeq (seqIncR .e) s)

/-- `DEC E` (R229). -/
def execDec_E (s : State) : Answer := .next (runSeq (seqDecR .e) s)

/-- `INC H` (R227). -/
def execInc_H (s : State) : Answer := .next (runSeq (seqIncR .h) s)

/-- `DEC H` (R229). -/
def execDec_H (s : State) : Answer := .next (runSeq (seqDecR .h) s)

/-- `DAA` (R231). -/
def execDaa (s : State) : Answer := .next (runSeq seqDaa s)

/-- `INC L` (R227). -/
def execInc_L (s : State) : Answer := .next (runSeq (seqIncR .l) s)

/-- `DEC L` (R229). -/
def execDec_L (s : State) : Answer := .next (runSeq (seqDecR .l) s)

/-- `CPL` (R232). -/
def execCpl (s : State) : Answer := .next (runSeq seqCpl s)

/-- `INC (HL)` (R228). -/
def execInc_mHL (s : State) : Answer := .next (runSeq seqIncHl s)

/-- `DEC (HL)` (R230). -/
def execDec_mHL (s : State) : Answer := .next (runSeq seqDecHl s)

/-- `SCF` (R233). -/
def execScf (s : State) : Answer := .next (runSeq seqScf s)

/-- `INC A` (R227). -/
def execInc_A (s : State) : Answer := .next (runSeq (seqIncR .a) s)

/-- `DEC A` (R229). -/
def execDec_A (s : State) : Answer := .next (runSeq (seqDecR .a) s)

/-- `CCF` (R234). -/
def execCcf (s : State) : Answer := .next (runSeq seqCcf s)

/-- `ADD A,B` (R203). -/
def execAdd_A_B (s : State) : Answer := .next (runSeq (seqAluR .add .b) s)

/-- `ADD A,C` (R203). -/
def execAdd_A_C (s : State) : Answer := .next (runSeq (seqAluR .add .c) s)

/-- `ADD A,D` (R203). -/
def execAdd_A_D (s : State) : Answer := .next (runSeq (seqAluR .add .d) s)

/-- `ADD A,E` (R203). -/
def execAdd_A_E (s : State) : Answer := .next (runSeq (seqAluR .add .e) s)

/-- `ADD A,H` (R203). -/
def execAdd_A_H (s : State) : Answer := .next (runSeq (seqAluR .add .h) s)

/-- `ADD A,L` (R203). -/
def execAdd_A_L (s : State) : Answer := .next (runSeq (seqAluR .add .l) s)

/-- `ADD A,(HL)` (R204). -/
def execAdd_A_mHL (s : State) : Answer := .next (runSeq (seqAluHl .add) s)

/-- `ADD A,A` (R203). -/
def execAdd_A_A (s : State) : Answer := .next (runSeq (seqAluR .add .a) s)

/-- `ADC A,B` (R206). -/
def execAdc_A_B (s : State) : Answer := .next (runSeq (seqAluR .adc .b) s)

/-- `ADC A,C` (R206). -/
def execAdc_A_C (s : State) : Answer := .next (runSeq (seqAluR .adc .c) s)

/-- `ADC A,D` (R206). -/
def execAdc_A_D (s : State) : Answer := .next (runSeq (seqAluR .adc .d) s)

/-- `ADC A,E` (R206). -/
def execAdc_A_E (s : State) : Answer := .next (runSeq (seqAluR .adc .e) s)

/-- `ADC A,H` (R206). -/
def execAdc_A_H (s : State) : Answer := .next (runSeq (seqAluR .adc .h) s)

/-- `ADC A,L` (R206). -/
def execAdc_A_L (s : State) : Answer := .next (runSeq (seqAluR .adc .l) s)

/-- `ADC A,(HL)` (R207). -/
def execAdc_A_mHL (s : State) : Answer := .next (runSeq (seqAluHl .adc) s)

/-- `ADC A,A` (R206). -/
def execAdc_A_A (s : State) : Answer := .next (runSeq (seqAluR .adc .a) s)

/-- `SUB B` (R209). -/
def execSub_B (s : State) : Answer := .next (runSeq (seqAluR .sub .b) s)

/-- `SUB C` (R209). -/
def execSub_C (s : State) : Answer := .next (runSeq (seqAluR .sub .c) s)

/-- `SUB D` (R209). -/
def execSub_D (s : State) : Answer := .next (runSeq (seqAluR .sub .d) s)

/-- `SUB E` (R209). -/
def execSub_E (s : State) : Answer := .next (runSeq (seqAluR .sub .e) s)

/-- `SUB H` (R209). -/
def execSub_H (s : State) : Answer := .next (runSeq (seqAluR .sub .h) s)

/-- `SUB L` (R209). -/
def execSub_L (s : State) : Answer := .next (runSeq (seqAluR .sub .l) s)

/-- `SUB (HL)` (R210). -/
def execSub_mHL (s : State) : Answer := .next (runSeq (seqAluHl .sub) s)

/-- `SUB A` (R209). -/
def execSub_A (s : State) : Answer := .next (runSeq (seqAluR .sub .a) s)

/-- `SBC A,B` (R212). -/
def execSbc_A_B (s : State) : Answer := .next (runSeq (seqAluR .sbc .b) s)

/-- `SBC A,C` (R212). -/
def execSbc_A_C (s : State) : Answer := .next (runSeq (seqAluR .sbc .c) s)

/-- `SBC A,D` (R212). -/
def execSbc_A_D (s : State) : Answer := .next (runSeq (seqAluR .sbc .d) s)

/-- `SBC A,E` (R212). -/
def execSbc_A_E (s : State) : Answer := .next (runSeq (seqAluR .sbc .e) s)

/-- `SBC A,H` (R212). -/
def execSbc_A_H (s : State) : Answer := .next (runSeq (seqAluR .sbc .h) s)

/-- `SBC A,L` (R212). -/
def execSbc_A_L (s : State) : Answer := .next (runSeq (seqAluR .sbc .l) s)

/-- `SBC A,(HL)` (R213). -/
def execSbc_A_mHL (s : State) : Answer := .next (runSeq (seqAluHl .sbc) s)

/-- `SBC A,A` (R212). -/
def execSbc_A_A (s : State) : Answer := .next (runSeq (seqAluR .sbc .a) s)

/-- `AND B` (R215). -/
def execAnd_B (s : State) : Answer := .next (runSeq (seqAluR .and .b) s)

/-- `AND C` (R215). -/
def execAnd_C (s : State) : Answer := .next (runSeq (seqAluR .and .c) s)

/-- `AND D` (R215). -/
def execAnd_D (s : State) : Answer := .next (runSeq (seqAluR .and .d) s)

/-- `AND E` (R215). -/
def execAnd_E (s : State) : Answer := .next (runSeq (seqAluR .and .e) s)

/-- `AND H` (R215). -/
def execAnd_H (s : State) : Answer := .next (runSeq (seqAluR .and .h) s)

/-- `AND L` (R215). -/
def execAnd_L (s : State) : Answer := .next (runSeq (seqAluR .and .l) s)

/-- `AND (HL)` (R216). -/
def execAnd_mHL (s : State) : Answer := .next (runSeq (seqAluHl .and) s)

/-- `AND A` (R215). -/
def execAnd_A (s : State) : Answer := .next (runSeq (seqAluR .and .a) s)

/-- `XOR B` (R218). -/
def execXor_B (s : State) : Answer := .next (runSeq (seqAluR .xor .b) s)

/-- `XOR C` (R218). -/
def execXor_C (s : State) : Answer := .next (runSeq (seqAluR .xor .c) s)

/-- `XOR D` (R218). -/
def execXor_D (s : State) : Answer := .next (runSeq (seqAluR .xor .d) s)

/-- `XOR E` (R218). -/
def execXor_E (s : State) : Answer := .next (runSeq (seqAluR .xor .e) s)

/-- `XOR H` (R218). -/
def execXor_H (s : State) : Answer := .next (runSeq (seqAluR .xor .h) s)

/-- `XOR L` (R218). -/
def execXor_L (s : State) : Answer := .next (runSeq (seqAluR .xor .l) s)

/-- `XOR (HL)` (R219). -/
def execXor_mHL (s : State) : Answer := .next (runSeq (seqAluHl .xor) s)

/-- `XOR A` (R218). -/
def execXor_A (s : State) : Answer := .next (runSeq (seqAluR .xor .a) s)

/-- `OR B` (R221). -/
def execOr_B (s : State) : Answer := .next (runSeq (seqAluR .or .b) s)

/-- `OR C` (R221). -/
def execOr_C (s : State) : Answer := .next (runSeq (seqAluR .or .c) s)

/-- `OR D` (R221). -/
def execOr_D (s : State) : Answer := .next (runSeq (seqAluR .or .d) s)

/-- `OR E` (R221). -/
def execOr_E (s : State) : Answer := .next (runSeq (seqAluR .or .e) s)

/-- `OR H` (R221). -/
def execOr_H (s : State) : Answer := .next (runSeq (seqAluR .or .h) s)

/-- `OR L` (R221). -/
def execOr_L (s : State) : Answer := .next (runSeq (seqAluR .or .l) s)

/-- `OR (HL)` (R222). -/
def execOr_mHL (s : State) : Answer := .next (runSeq (seqAluHl .or) s)

/-- `OR A` (R221). -/
def execOr_A (s : State) : Answer := .next (runSeq (seqAluR .or .a) s)

/-- `CP B` (R224). -/
def execCp_B (s : State) : Answer := .next (runSeq (seqAluR .cp .b) s)

/-- `CP C` (R224). -/
def execCp_C (s : State) : Answer := .next (runSeq (seqAluR .cp .c) s)

/-- `CP D` (R224). -/
def execCp_D (s : State) : Answer := .next (runSeq (seqAluR .cp .d) s)

/-- `CP E` (R224). -/
def execCp_E (s : State) : Answer := .next (runSeq (seqAluR .cp .e) s)

/-- `CP H` (R224). -/
def execCp_H (s : State) : Answer := .next (runSeq (seqAluR .cp .h) s)

/-- `CP L` (R224). -/
def execCp_L (s : State) : Answer := .next (runSeq (seqAluR .cp .l) s)

/-- `CP (HL)` (R225). -/
def execCp_mHL (s : State) : Answer := .next (runSeq (seqAluHl .cp) s)

/-- `CP A` (R224). -/
def execCp_A (s : State) : Answer := .next (runSeq (seqAluR .cp .a) s)

/-- `ADD A,n` (R205). -/
def execAdd_A_n (n : Byte) (s : State) : Answer := .next (runSeq (seqAluN .add) (s.withTmp8 n))

/-- `ADC A,n` (R208). -/
def execAdc_A_n (n : Byte) (s : State) : Answer := .next (runSeq (seqAluN .adc) (s.withTmp8 n))

/-- `SUB n` (R211). -/
def execSub_n (n : Byte) (s : State) : Answer := .next (runSeq (seqAluN .sub) (s.withTmp8 n))

/-- `SBC A,n` (R214). -/
def execSbc_A_n (n : Byte) (s : State) : Answer := .next (runSeq (seqAluN .sbc) (s.withTmp8 n))

/-- `AND n` (R217). -/
def execAnd_n (n : Byte) (s : State) : Answer := .next (runSeq (seqAluN .and) (s.withTmp8 n))

/-- `XOR n` (R220). -/
def execXor_n (n : Byte) (s : State) : Answer := .next (runSeq (seqAluN .xor) (s.withTmp8 n))

/-- `OR n` (R223). -/
def execOr_n (n : Byte) (s : State) : Answer := .next (runSeq (seqAluN .or) (s.withTmp8 n))

/-- `CP n` (R226). -/
def execCp_n (n : Byte) (s : State) : Answer := .next (runSeq (seqAluN .cp) (s.withTmp8 n))

end Sys2Proof.Machine
end

