-- ==== Sys2Proof/Machine/BitOps.lean ====
section
/-! DEFINITION. `BIT`, `RES` and `SET` (45_rotate_shift_bit.md R250, R267 to R272): the sequences, then one
meaning per opcode row. -/

namespace Sys2Proof.Machine

/-- `BIT b,r` (R267). -/
def seqBitR (k : Fin 8) (r : Reg8) : List Micro :=
  [Micro.of fun s => s.withRegs (s.regs.testBit k (s.regs.get r))]

/-- `BIT b,(HL)`: a read and no write (R268). -/
def seqBitHl (k : Fin 8) : List Micro :=
  [Micro.idle, Micro.of fun s =>
    let t := readTemp s s.regs.hl
    t.withRegs (t.regs.testBit k t.cpu.tmp8)]

/-- `RES b,r` (R269). -/
def seqResR (k : Fin 8) (r : Reg8) : List Micro :=
  [Micro.of fun s => s.setReg r (clearBit k (s.regs.get r))]

/-- `RES b,(HL)` (R270). -/
def seqResHl (k : Fin 8) : List Micro :=
  [Micro.idle,
   Micro.of fun s => readTemp s s.regs.hl,
   Micro.of fun s => memWrite s s.regs.hl (clearBit k s.cpu.tmp8)]

/-- `SET b,r` (R271). -/
def seqSetR (k : Fin 8) (r : Reg8) : List Micro :=
  [Micro.of fun s => s.setReg r (setBit k (s.regs.get r))]

/-- `SET b,(HL)` (R272). -/
def seqSetHl (k : Fin 8) : List Micro :=
  [Micro.idle,
   Micro.of fun s => readTemp s s.regs.hl,
   Micro.of fun s => memWrite s s.regs.hl (setBit k s.cpu.tmp8)]

/-- `BIT 0,B` (R267). -/
def execBit_0_B (s : State) : Answer := .next (runSeq (seqBitR 0 .b) s)

/-- `BIT 0,C` (R267). -/
def execBit_0_C (s : State) : Answer := .next (runSeq (seqBitR 0 .c) s)

/-- `BIT 0,D` (R267). -/
def execBit_0_D (s : State) : Answer := .next (runSeq (seqBitR 0 .d) s)

/-- `BIT 0,E` (R267). -/
def execBit_0_E (s : State) : Answer := .next (runSeq (seqBitR 0 .e) s)

/-- `BIT 0,H` (R267). -/
def execBit_0_H (s : State) : Answer := .next (runSeq (seqBitR 0 .h) s)

/-- `BIT 0,L` (R267). -/
def execBit_0_L (s : State) : Answer := .next (runSeq (seqBitR 0 .l) s)

/-- `BIT 0,(HL)` (R268). -/
def execBit_0_mHL (s : State) : Answer := .next (runSeq (seqBitHl 0) s)

/-- `BIT 0,A` (R267). -/
def execBit_0_A (s : State) : Answer := .next (runSeq (seqBitR 0 .a) s)

/-- `BIT 1,B` (R267). -/
def execBit_1_B (s : State) : Answer := .next (runSeq (seqBitR 1 .b) s)

/-- `BIT 1,C` (R267). -/
def execBit_1_C (s : State) : Answer := .next (runSeq (seqBitR 1 .c) s)

/-- `BIT 1,D` (R267). -/
def execBit_1_D (s : State) : Answer := .next (runSeq (seqBitR 1 .d) s)

/-- `BIT 1,E` (R267). -/
def execBit_1_E (s : State) : Answer := .next (runSeq (seqBitR 1 .e) s)

/-- `BIT 1,H` (R267). -/
def execBit_1_H (s : State) : Answer := .next (runSeq (seqBitR 1 .h) s)

/-- `BIT 1,L` (R267). -/
def execBit_1_L (s : State) : Answer := .next (runSeq (seqBitR 1 .l) s)

/-- `BIT 1,(HL)` (R268). -/
def execBit_1_mHL (s : State) : Answer := .next (runSeq (seqBitHl 1) s)

/-- `BIT 1,A` (R267). -/
def execBit_1_A (s : State) : Answer := .next (runSeq (seqBitR 1 .a) s)

/-- `BIT 2,B` (R267). -/
def execBit_2_B (s : State) : Answer := .next (runSeq (seqBitR 2 .b) s)

/-- `BIT 2,C` (R267). -/
def execBit_2_C (s : State) : Answer := .next (runSeq (seqBitR 2 .c) s)

/-- `BIT 2,D` (R267). -/
def execBit_2_D (s : State) : Answer := .next (runSeq (seqBitR 2 .d) s)

/-- `BIT 2,E` (R267). -/
def execBit_2_E (s : State) : Answer := .next (runSeq (seqBitR 2 .e) s)

/-- `BIT 2,H` (R267). -/
def execBit_2_H (s : State) : Answer := .next (runSeq (seqBitR 2 .h) s)

/-- `BIT 2,L` (R267). -/
def execBit_2_L (s : State) : Answer := .next (runSeq (seqBitR 2 .l) s)

/-- `BIT 2,(HL)` (R268). -/
def execBit_2_mHL (s : State) : Answer := .next (runSeq (seqBitHl 2) s)

/-- `BIT 2,A` (R267). -/
def execBit_2_A (s : State) : Answer := .next (runSeq (seqBitR 2 .a) s)

/-- `BIT 3,B` (R267). -/
def execBit_3_B (s : State) : Answer := .next (runSeq (seqBitR 3 .b) s)

/-- `BIT 3,C` (R267). -/
def execBit_3_C (s : State) : Answer := .next (runSeq (seqBitR 3 .c) s)

/-- `BIT 3,D` (R267). -/
def execBit_3_D (s : State) : Answer := .next (runSeq (seqBitR 3 .d) s)

/-- `BIT 3,E` (R267). -/
def execBit_3_E (s : State) : Answer := .next (runSeq (seqBitR 3 .e) s)

/-- `BIT 3,H` (R267). -/
def execBit_3_H (s : State) : Answer := .next (runSeq (seqBitR 3 .h) s)

/-- `BIT 3,L` (R267). -/
def execBit_3_L (s : State) : Answer := .next (runSeq (seqBitR 3 .l) s)

/-- `BIT 3,(HL)` (R268). -/
def execBit_3_mHL (s : State) : Answer := .next (runSeq (seqBitHl 3) s)

/-- `BIT 3,A` (R267). -/
def execBit_3_A (s : State) : Answer := .next (runSeq (seqBitR 3 .a) s)

/-- `BIT 4,B` (R267). -/
def execBit_4_B (s : State) : Answer := .next (runSeq (seqBitR 4 .b) s)

/-- `BIT 4,C` (R267). -/
def execBit_4_C (s : State) : Answer := .next (runSeq (seqBitR 4 .c) s)

/-- `BIT 4,D` (R267). -/
def execBit_4_D (s : State) : Answer := .next (runSeq (seqBitR 4 .d) s)

/-- `BIT 4,E` (R267). -/
def execBit_4_E (s : State) : Answer := .next (runSeq (seqBitR 4 .e) s)

/-- `BIT 4,H` (R267). -/
def execBit_4_H (s : State) : Answer := .next (runSeq (seqBitR 4 .h) s)

/-- `BIT 4,L` (R267). -/
def execBit_4_L (s : State) : Answer := .next (runSeq (seqBitR 4 .l) s)

/-- `BIT 4,(HL)` (R268). -/
def execBit_4_mHL (s : State) : Answer := .next (runSeq (seqBitHl 4) s)

/-- `BIT 4,A` (R267). -/
def execBit_4_A (s : State) : Answer := .next (runSeq (seqBitR 4 .a) s)

/-- `BIT 5,B` (R267). -/
def execBit_5_B (s : State) : Answer := .next (runSeq (seqBitR 5 .b) s)

/-- `BIT 5,C` (R267). -/
def execBit_5_C (s : State) : Answer := .next (runSeq (seqBitR 5 .c) s)

/-- `BIT 5,D` (R267). -/
def execBit_5_D (s : State) : Answer := .next (runSeq (seqBitR 5 .d) s)

/-- `BIT 5,E` (R267). -/
def execBit_5_E (s : State) : Answer := .next (runSeq (seqBitR 5 .e) s)

/-- `BIT 5,H` (R267). -/
def execBit_5_H (s : State) : Answer := .next (runSeq (seqBitR 5 .h) s)

/-- `BIT 5,L` (R267). -/
def execBit_5_L (s : State) : Answer := .next (runSeq (seqBitR 5 .l) s)

/-- `BIT 5,(HL)` (R268). -/
def execBit_5_mHL (s : State) : Answer := .next (runSeq (seqBitHl 5) s)

/-- `BIT 5,A` (R267). -/
def execBit_5_A (s : State) : Answer := .next (runSeq (seqBitR 5 .a) s)

/-- `BIT 6,B` (R267). -/
def execBit_6_B (s : State) : Answer := .next (runSeq (seqBitR 6 .b) s)

/-- `BIT 6,C` (R267). -/
def execBit_6_C (s : State) : Answer := .next (runSeq (seqBitR 6 .c) s)

/-- `BIT 6,D` (R267). -/
def execBit_6_D (s : State) : Answer := .next (runSeq (seqBitR 6 .d) s)

/-- `BIT 6,E` (R267). -/
def execBit_6_E (s : State) : Answer := .next (runSeq (seqBitR 6 .e) s)

/-- `BIT 6,H` (R267). -/
def execBit_6_H (s : State) : Answer := .next (runSeq (seqBitR 6 .h) s)

/-- `BIT 6,L` (R267). -/
def execBit_6_L (s : State) : Answer := .next (runSeq (seqBitR 6 .l) s)

/-- `BIT 6,(HL)` (R268). -/
def execBit_6_mHL (s : State) : Answer := .next (runSeq (seqBitHl 6) s)

/-- `BIT 6,A` (R267). -/
def execBit_6_A (s : State) : Answer := .next (runSeq (seqBitR 6 .a) s)

/-- `BIT 7,B` (R267). -/
def execBit_7_B (s : State) : Answer := .next (runSeq (seqBitR 7 .b) s)

/-- `BIT 7,C` (R267). -/
def execBit_7_C (s : State) : Answer := .next (runSeq (seqBitR 7 .c) s)

/-- `BIT 7,D` (R267). -/
def execBit_7_D (s : State) : Answer := .next (runSeq (seqBitR 7 .d) s)

/-- `BIT 7,E` (R267). -/
def execBit_7_E (s : State) : Answer := .next (runSeq (seqBitR 7 .e) s)

/-- `BIT 7,H` (R267). -/
def execBit_7_H (s : State) : Answer := .next (runSeq (seqBitR 7 .h) s)

/-- `BIT 7,L` (R267). -/
def execBit_7_L (s : State) : Answer := .next (runSeq (seqBitR 7 .l) s)

/-- `BIT 7,(HL)` (R268). -/
def execBit_7_mHL (s : State) : Answer := .next (runSeq (seqBitHl 7) s)

/-- `BIT 7,A` (R267). -/
def execBit_7_A (s : State) : Answer := .next (runSeq (seqBitR 7 .a) s)

/-- `RES 0,B` (R269). -/
def execRes_0_B (s : State) : Answer := .next (runSeq (seqResR 0 .b) s)

/-- `RES 0,C` (R269). -/
def execRes_0_C (s : State) : Answer := .next (runSeq (seqResR 0 .c) s)

/-- `RES 0,D` (R269). -/
def execRes_0_D (s : State) : Answer := .next (runSeq (seqResR 0 .d) s)

/-- `RES 0,E` (R269). -/
def execRes_0_E (s : State) : Answer := .next (runSeq (seqResR 0 .e) s)

/-- `RES 0,H` (R269). -/
def execRes_0_H (s : State) : Answer := .next (runSeq (seqResR 0 .h) s)

/-- `RES 0,L` (R269). -/
def execRes_0_L (s : State) : Answer := .next (runSeq (seqResR 0 .l) s)

/-- `RES 0,(HL)` (R270). -/
def execRes_0_mHL (s : State) : Answer := .next (runSeq (seqResHl 0) s)

/-- `RES 0,A` (R269). -/
def execRes_0_A (s : State) : Answer := .next (runSeq (seqResR 0 .a) s)

/-- `RES 1,B` (R269). -/
def execRes_1_B (s : State) : Answer := .next (runSeq (seqResR 1 .b) s)

/-- `RES 1,C` (R269). -/
def execRes_1_C (s : State) : Answer := .next (runSeq (seqResR 1 .c) s)

/-- `RES 1,D` (R269). -/
def execRes_1_D (s : State) : Answer := .next (runSeq (seqResR 1 .d) s)

/-- `RES 1,E` (R269). -/
def execRes_1_E (s : State) : Answer := .next (runSeq (seqResR 1 .e) s)

/-- `RES 1,H` (R269). -/
def execRes_1_H (s : State) : Answer := .next (runSeq (seqResR 1 .h) s)

/-- `RES 1,L` (R269). -/
def execRes_1_L (s : State) : Answer := .next (runSeq (seqResR 1 .l) s)

/-- `RES 1,(HL)` (R270). -/
def execRes_1_mHL (s : State) : Answer := .next (runSeq (seqResHl 1) s)

/-- `RES 1,A` (R269). -/
def execRes_1_A (s : State) : Answer := .next (runSeq (seqResR 1 .a) s)

/-- `RES 2,B` (R269). -/
def execRes_2_B (s : State) : Answer := .next (runSeq (seqResR 2 .b) s)

/-- `RES 2,C` (R269). -/
def execRes_2_C (s : State) : Answer := .next (runSeq (seqResR 2 .c) s)

/-- `RES 2,D` (R269). -/
def execRes_2_D (s : State) : Answer := .next (runSeq (seqResR 2 .d) s)

/-- `RES 2,E` (R269). -/
def execRes_2_E (s : State) : Answer := .next (runSeq (seqResR 2 .e) s)

/-- `RES 2,H` (R269). -/
def execRes_2_H (s : State) : Answer := .next (runSeq (seqResR 2 .h) s)

/-- `RES 2,L` (R269). -/
def execRes_2_L (s : State) : Answer := .next (runSeq (seqResR 2 .l) s)

/-- `RES 2,(HL)` (R270). -/
def execRes_2_mHL (s : State) : Answer := .next (runSeq (seqResHl 2) s)

/-- `RES 2,A` (R269). -/
def execRes_2_A (s : State) : Answer := .next (runSeq (seqResR 2 .a) s)

/-- `RES 3,B` (R269). -/
def execRes_3_B (s : State) : Answer := .next (runSeq (seqResR 3 .b) s)

/-- `RES 3,C` (R269). -/
def execRes_3_C (s : State) : Answer := .next (runSeq (seqResR 3 .c) s)

/-- `RES 3,D` (R269). -/
def execRes_3_D (s : State) : Answer := .next (runSeq (seqResR 3 .d) s)

/-- `RES 3,E` (R269). -/
def execRes_3_E (s : State) : Answer := .next (runSeq (seqResR 3 .e) s)

/-- `RES 3,H` (R269). -/
def execRes_3_H (s : State) : Answer := .next (runSeq (seqResR 3 .h) s)

/-- `RES 3,L` (R269). -/
def execRes_3_L (s : State) : Answer := .next (runSeq (seqResR 3 .l) s)

/-- `RES 3,(HL)` (R270). -/
def execRes_3_mHL (s : State) : Answer := .next (runSeq (seqResHl 3) s)

/-- `RES 3,A` (R269). -/
def execRes_3_A (s : State) : Answer := .next (runSeq (seqResR 3 .a) s)

/-- `RES 4,B` (R269). -/
def execRes_4_B (s : State) : Answer := .next (runSeq (seqResR 4 .b) s)

/-- `RES 4,C` (R269). -/
def execRes_4_C (s : State) : Answer := .next (runSeq (seqResR 4 .c) s)

/-- `RES 4,D` (R269). -/
def execRes_4_D (s : State) : Answer := .next (runSeq (seqResR 4 .d) s)

/-- `RES 4,E` (R269). -/
def execRes_4_E (s : State) : Answer := .next (runSeq (seqResR 4 .e) s)

/-- `RES 4,H` (R269). -/
def execRes_4_H (s : State) : Answer := .next (runSeq (seqResR 4 .h) s)

/-- `RES 4,L` (R269). -/
def execRes_4_L (s : State) : Answer := .next (runSeq (seqResR 4 .l) s)

/-- `RES 4,(HL)` (R270). -/
def execRes_4_mHL (s : State) : Answer := .next (runSeq (seqResHl 4) s)

/-- `RES 4,A` (R269). -/
def execRes_4_A (s : State) : Answer := .next (runSeq (seqResR 4 .a) s)

/-- `RES 5,B` (R269). -/
def execRes_5_B (s : State) : Answer := .next (runSeq (seqResR 5 .b) s)

/-- `RES 5,C` (R269). -/
def execRes_5_C (s : State) : Answer := .next (runSeq (seqResR 5 .c) s)

/-- `RES 5,D` (R269). -/
def execRes_5_D (s : State) : Answer := .next (runSeq (seqResR 5 .d) s)

/-- `RES 5,E` (R269). -/
def execRes_5_E (s : State) : Answer := .next (runSeq (seqResR 5 .e) s)

/-- `RES 5,H` (R269). -/
def execRes_5_H (s : State) : Answer := .next (runSeq (seqResR 5 .h) s)

/-- `RES 5,L` (R269). -/
def execRes_5_L (s : State) : Answer := .next (runSeq (seqResR 5 .l) s)

/-- `RES 5,(HL)` (R270). -/
def execRes_5_mHL (s : State) : Answer := .next (runSeq (seqResHl 5) s)

/-- `RES 5,A` (R269). -/
def execRes_5_A (s : State) : Answer := .next (runSeq (seqResR 5 .a) s)

/-- `RES 6,B` (R269). -/
def execRes_6_B (s : State) : Answer := .next (runSeq (seqResR 6 .b) s)

/-- `RES 6,C` (R269). -/
def execRes_6_C (s : State) : Answer := .next (runSeq (seqResR 6 .c) s)

/-- `RES 6,D` (R269). -/
def execRes_6_D (s : State) : Answer := .next (runSeq (seqResR 6 .d) s)

/-- `RES 6,E` (R269). -/
def execRes_6_E (s : State) : Answer := .next (runSeq (seqResR 6 .e) s)

/-- `RES 6,H` (R269). -/
def execRes_6_H (s : State) : Answer := .next (runSeq (seqResR 6 .h) s)

/-- `RES 6,L` (R269). -/
def execRes_6_L (s : State) : Answer := .next (runSeq (seqResR 6 .l) s)

/-- `RES 6,(HL)` (R270). -/
def execRes_6_mHL (s : State) : Answer := .next (runSeq (seqResHl 6) s)

/-- `RES 6,A` (R269). -/
def execRes_6_A (s : State) : Answer := .next (runSeq (seqResR 6 .a) s)

/-- `RES 7,B` (R269). -/
def execRes_7_B (s : State) : Answer := .next (runSeq (seqResR 7 .b) s)

/-- `RES 7,C` (R269). -/
def execRes_7_C (s : State) : Answer := .next (runSeq (seqResR 7 .c) s)

/-- `RES 7,D` (R269). -/
def execRes_7_D (s : State) : Answer := .next (runSeq (seqResR 7 .d) s)

/-- `RES 7,E` (R269). -/
def execRes_7_E (s : State) : Answer := .next (runSeq (seqResR 7 .e) s)

/-- `RES 7,H` (R269). -/
def execRes_7_H (s : State) : Answer := .next (runSeq (seqResR 7 .h) s)

/-- `RES 7,L` (R269). -/
def execRes_7_L (s : State) : Answer := .next (runSeq (seqResR 7 .l) s)

/-- `RES 7,(HL)` (R270). -/
def execRes_7_mHL (s : State) : Answer := .next (runSeq (seqResHl 7) s)

/-- `RES 7,A` (R269). -/
def execRes_7_A (s : State) : Answer := .next (runSeq (seqResR 7 .a) s)

/-- `SET 0,B` (R271). -/
def execSet_0_B (s : State) : Answer := .next (runSeq (seqSetR 0 .b) s)

/-- `SET 0,C` (R271). -/
def execSet_0_C (s : State) : Answer := .next (runSeq (seqSetR 0 .c) s)

/-- `SET 0,D` (R271). -/
def execSet_0_D (s : State) : Answer := .next (runSeq (seqSetR 0 .d) s)

/-- `SET 0,E` (R271). -/
def execSet_0_E (s : State) : Answer := .next (runSeq (seqSetR 0 .e) s)

/-- `SET 0,H` (R271). -/
def execSet_0_H (s : State) : Answer := .next (runSeq (seqSetR 0 .h) s)

/-- `SET 0,L` (R271). -/
def execSet_0_L (s : State) : Answer := .next (runSeq (seqSetR 0 .l) s)

/-- `SET 0,(HL)` (R272). -/
def execSet_0_mHL (s : State) : Answer := .next (runSeq (seqSetHl 0) s)

/-- `SET 0,A` (R271). -/
def execSet_0_A (s : State) : Answer := .next (runSeq (seqSetR 0 .a) s)

/-- `SET 1,B` (R271). -/
def execSet_1_B (s : State) : Answer := .next (runSeq (seqSetR 1 .b) s)

/-- `SET 1,C` (R271). -/
def execSet_1_C (s : State) : Answer := .next (runSeq (seqSetR 1 .c) s)

/-- `SET 1,D` (R271). -/
def execSet_1_D (s : State) : Answer := .next (runSeq (seqSetR 1 .d) s)

/-- `SET 1,E` (R271). -/
def execSet_1_E (s : State) : Answer := .next (runSeq (seqSetR 1 .e) s)

/-- `SET 1,H` (R271). -/
def execSet_1_H (s : State) : Answer := .next (runSeq (seqSetR 1 .h) s)

/-- `SET 1,L` (R271). -/
def execSet_1_L (s : State) : Answer := .next (runSeq (seqSetR 1 .l) s)

/-- `SET 1,(HL)` (R272). -/
def execSet_1_mHL (s : State) : Answer := .next (runSeq (seqSetHl 1) s)

/-- `SET 1,A` (R271). -/
def execSet_1_A (s : State) : Answer := .next (runSeq (seqSetR 1 .a) s)

/-- `SET 2,B` (R271). -/
def execSet_2_B (s : State) : Answer := .next (runSeq (seqSetR 2 .b) s)

/-- `SET 2,C` (R271). -/
def execSet_2_C (s : State) : Answer := .next (runSeq (seqSetR 2 .c) s)

/-- `SET 2,D` (R271). -/
def execSet_2_D (s : State) : Answer := .next (runSeq (seqSetR 2 .d) s)

/-- `SET 2,E` (R271). -/
def execSet_2_E (s : State) : Answer := .next (runSeq (seqSetR 2 .e) s)

/-- `SET 2,H` (R271). -/
def execSet_2_H (s : State) : Answer := .next (runSeq (seqSetR 2 .h) s)

/-- `SET 2,L` (R271). -/
def execSet_2_L (s : State) : Answer := .next (runSeq (seqSetR 2 .l) s)

/-- `SET 2,(HL)` (R272). -/
def execSet_2_mHL (s : State) : Answer := .next (runSeq (seqSetHl 2) s)

/-- `SET 2,A` (R271). -/
def execSet_2_A (s : State) : Answer := .next (runSeq (seqSetR 2 .a) s)

/-- `SET 3,B` (R271). -/
def execSet_3_B (s : State) : Answer := .next (runSeq (seqSetR 3 .b) s)

/-- `SET 3,C` (R271). -/
def execSet_3_C (s : State) : Answer := .next (runSeq (seqSetR 3 .c) s)

/-- `SET 3,D` (R271). -/
def execSet_3_D (s : State) : Answer := .next (runSeq (seqSetR 3 .d) s)

/-- `SET 3,E` (R271). -/
def execSet_3_E (s : State) : Answer := .next (runSeq (seqSetR 3 .e) s)

/-- `SET 3,H` (R271). -/
def execSet_3_H (s : State) : Answer := .next (runSeq (seqSetR 3 .h) s)

/-- `SET 3,L` (R271). -/
def execSet_3_L (s : State) : Answer := .next (runSeq (seqSetR 3 .l) s)

/-- `SET 3,(HL)` (R272). -/
def execSet_3_mHL (s : State) : Answer := .next (runSeq (seqSetHl 3) s)

/-- `SET 3,A` (R271). -/
def execSet_3_A (s : State) : Answer := .next (runSeq (seqSetR 3 .a) s)

/-- `SET 4,B` (R271). -/
def execSet_4_B (s : State) : Answer := .next (runSeq (seqSetR 4 .b) s)

/-- `SET 4,C` (R271). -/
def execSet_4_C (s : State) : Answer := .next (runSeq (seqSetR 4 .c) s)

/-- `SET 4,D` (R271). -/
def execSet_4_D (s : State) : Answer := .next (runSeq (seqSetR 4 .d) s)

/-- `SET 4,E` (R271). -/
def execSet_4_E (s : State) : Answer := .next (runSeq (seqSetR 4 .e) s)

/-- `SET 4,H` (R271). -/
def execSet_4_H (s : State) : Answer := .next (runSeq (seqSetR 4 .h) s)

/-- `SET 4,L` (R271). -/
def execSet_4_L (s : State) : Answer := .next (runSeq (seqSetR 4 .l) s)

/-- `SET 4,(HL)` (R272). -/
def execSet_4_mHL (s : State) : Answer := .next (runSeq (seqSetHl 4) s)

/-- `SET 4,A` (R271). -/
def execSet_4_A (s : State) : Answer := .next (runSeq (seqSetR 4 .a) s)

/-- `SET 5,B` (R271). -/
def execSet_5_B (s : State) : Answer := .next (runSeq (seqSetR 5 .b) s)

/-- `SET 5,C` (R271). -/
def execSet_5_C (s : State) : Answer := .next (runSeq (seqSetR 5 .c) s)

/-- `SET 5,D` (R271). -/
def execSet_5_D (s : State) : Answer := .next (runSeq (seqSetR 5 .d) s)

/-- `SET 5,E` (R271). -/
def execSet_5_E (s : State) : Answer := .next (runSeq (seqSetR 5 .e) s)

/-- `SET 5,H` (R271). -/
def execSet_5_H (s : State) : Answer := .next (runSeq (seqSetR 5 .h) s)

/-- `SET 5,L` (R271). -/
def execSet_5_L (s : State) : Answer := .next (runSeq (seqSetR 5 .l) s)

/-- `SET 5,(HL)` (R272). -/
def execSet_5_mHL (s : State) : Answer := .next (runSeq (seqSetHl 5) s)

/-- `SET 5,A` (R271). -/
def execSet_5_A (s : State) : Answer := .next (runSeq (seqSetR 5 .a) s)

/-- `SET 6,B` (R271). -/
def execSet_6_B (s : State) : Answer := .next (runSeq (seqSetR 6 .b) s)

/-- `SET 6,C` (R271). -/
def execSet_6_C (s : State) : Answer := .next (runSeq (seqSetR 6 .c) s)

/-- `SET 6,D` (R271). -/
def execSet_6_D (s : State) : Answer := .next (runSeq (seqSetR 6 .d) s)

/-- `SET 6,E` (R271). -/
def execSet_6_E (s : State) : Answer := .next (runSeq (seqSetR 6 .e) s)

/-- `SET 6,H` (R271). -/
def execSet_6_H (s : State) : Answer := .next (runSeq (seqSetR 6 .h) s)

/-- `SET 6,L` (R271). -/
def execSet_6_L (s : State) : Answer := .next (runSeq (seqSetR 6 .l) s)

/-- `SET 6,(HL)` (R272). -/
def execSet_6_mHL (s : State) : Answer := .next (runSeq (seqSetHl 6) s)

/-- `SET 6,A` (R271). -/
def execSet_6_A (s : State) : Answer := .next (runSeq (seqSetR 6 .a) s)

/-- `SET 7,B` (R271). -/
def execSet_7_B (s : State) : Answer := .next (runSeq (seqSetR 7 .b) s)

/-- `SET 7,C` (R271). -/
def execSet_7_C (s : State) : Answer := .next (runSeq (seqSetR 7 .c) s)

/-- `SET 7,D` (R271). -/
def execSet_7_D (s : State) : Answer := .next (runSeq (seqSetR 7 .d) s)

/-- `SET 7,E` (R271). -/
def execSet_7_E (s : State) : Answer := .next (runSeq (seqSetR 7 .e) s)

/-- `SET 7,H` (R271). -/
def execSet_7_H (s : State) : Answer := .next (runSeq (seqSetR 7 .h) s)

/-- `SET 7,L` (R271). -/
def execSet_7_L (s : State) : Answer := .next (runSeq (seqSetR 7 .l) s)

/-- `SET 7,(HL)` (R272). -/
def execSet_7_mHL (s : State) : Answer := .next (runSeq (seqSetHl 7) s)

/-- `SET 7,A` (R271). -/
def execSet_7_A (s : State) : Answer := .next (runSeq (seqSetR 7 .a) s)

end Sys2Proof.Machine
end

