-- ==== Sys2Proof/Machine/Control.lean ====
section
/-! DEFINITION. Jumps, calls, returns and restarts (46_control_transfer.md R280 to R292): the sequences, then
one meaning per opcode row. The interrupt return itself is in Machine/Ops.lean. -/

namespace Sys2Proof.Machine

/-- `pc <- pc + sext_16(tmp8)` (R285). -/
def jumpRelative (s : State) : State := s.setPc (s.regs.pc + sext16 s.cpu.tmp8)

/-- The last cycle of a call: the low byte of `pc` is pushed, then `pc <- t` (R287, R292). -/
def pushAndJump (s : State) (t : Word) : State := (pushPcLow s).setPc t

/-- `JP nn` (R282). -/
def seqJpNn : List Micro := [Micro.idle, Micro.of jumpTemp]

/-- `JP cc,nn` (R283). -/
def seqJpCcNn (cc : Cond) : List Micro := [Micro.unless id cc, Micro.of jumpTemp]

/-- `JP HL` (R284). -/
def seqJpHl : List Micro := [Micro.of fun s => s.setPc s.regs.hl]

/-- `JR e` (R285). -/
def seqJrE : List Micro := [Micro.idle, Micro.of jumpRelative]

/-- `JR cc,e` (R286). -/
def seqJrCcE (cc : Cond) : List Micro := [Micro.unless id cc, Micro.of jumpRelative]

/-- The cycles `M4` to `M6` of a call (R287). -/
def callCycles : List Micro :=
  [Micro.idle, Micro.of pushPcHigh, Micro.of fun s => pushAndJump s s.cpu.tmp16]

/-- `CALL nn` (R287). -/
def seqCallNn : List Micro := Micro.idle :: callCycles

/-- `CALL cc,nn` (R288). -/
def seqCallCcNn (cc : Cond) : List Micro := Micro.unless id cc :: callCycles

/-- The cycles that pop `pc` (R289). -/
def popPcCycles : List Micro := [Micro.of popLow, Micro.of popHigh, Micro.of jumpTemp]

/-- `RET` (R289). -/
def seqRet : List Micro := Micro.idle :: popPcCycles

/-- `RET cc`: the test is in an internal cycle (R290). -/
def seqRetCc (cc : Cond) : List Micro := Micro.idle :: Micro.unless id cc :: popPcCycles

/-- The target of `RST` (R292). -/
def rstTarget (t : Fin 8) : Word := BitVec.ofNat 16 (8 * t.val)

/-- `RST t` (R292). -/
def seqRst (t : Fin 8) : List Micro :=
  [Micro.idle, Micro.idle, Micro.of pushPcHigh, Micro.of fun s => pushAndJump s (rstTarget t)]

/-- `JR e` (R285). -/
def execJr_e (e : Byte) (s : State) : Answer := .next (runSeq seqJrE (s.withTmp8 e))

/-- `JR NZ,e` (R286). -/
def execJr_NZ_e (e : Byte) (s : State) : Answer := .next (runSeq (seqJrCcE .nz) (s.withTmp8 e))

/-- `JR Z,e` (R286). -/
def execJr_Z_e (e : Byte) (s : State) : Answer := .next (runSeq (seqJrCcE .z) (s.withTmp8 e))

/-- `JR NC,e` (R286). -/
def execJr_NC_e (e : Byte) (s : State) : Answer := .next (runSeq (seqJrCcE .nc) (s.withTmp8 e))

/-- `JR C,e` (R286). -/
def execJr_C_e (e : Byte) (s : State) : Answer := .next (runSeq (seqJrCcE .c) (s.withTmp8 e))

/-- `RET NZ` (R290). -/
def execRet_NZ (s : State) : Answer := .next (runSeq (seqRetCc .nz) s)

/-- `JP NZ,nn` (R283). -/
def execJp_NZ_nn (nn : Word) (s : State) : Answer := .next (runSeq (seqJpCcNn .nz) (s.withTmp16 nn))

/-- `JP nn` (R282). -/
def execJp_nn (nn : Word) (s : State) : Answer := .next (runSeq seqJpNn (s.withTmp16 nn))

/-- `CALL NZ,nn` (R288). -/
def execCall_NZ_nn (nn : Word) (s : State) : Answer :=
  .next (runSeq (seqCallCcNn .nz) (s.withTmp16 nn))

/-- `RST 0x00` (R292). -/
def execRst_00 (s : State) : Answer := .next (runSeq (seqRst 0) s)

/-- `RET Z` (R290). -/
def execRet_Z (s : State) : Answer := .next (runSeq (seqRetCc .z) s)

/-- `RET` (R289). -/
def execRet (s : State) : Answer := .next (runSeq seqRet s)

/-- `JP Z,nn` (R283). -/
def execJp_Z_nn (nn : Word) (s : State) : Answer := .next (runSeq (seqJpCcNn .z) (s.withTmp16 nn))

/-- `CALL Z,nn` (R288). -/
def execCall_Z_nn (nn : Word) (s : State) : Answer :=
  .next (runSeq (seqCallCcNn .z) (s.withTmp16 nn))

/-- `CALL nn` (R287). -/
def execCall_nn (nn : Word) (s : State) : Answer := .next (runSeq seqCallNn (s.withTmp16 nn))

/-- `RST 0x08` (R292). -/
def execRst_08 (s : State) : Answer := .next (runSeq (seqRst 1) s)

/-- `RET NC` (R290). -/
def execRet_NC (s : State) : Answer := .next (runSeq (seqRetCc .nc) s)

/-- `JP NC,nn` (R283). -/
def execJp_NC_nn (nn : Word) (s : State) : Answer := .next (runSeq (seqJpCcNn .nc) (s.withTmp16 nn))

/-- `CALL NC,nn` (R288). -/
def execCall_NC_nn (nn : Word) (s : State) : Answer :=
  .next (runSeq (seqCallCcNn .nc) (s.withTmp16 nn))

/-- `RST 0x10` (R292). -/
def execRst_10 (s : State) : Answer := .next (runSeq (seqRst 2) s)

/-- `RET C` (R290). -/
def execRet_C (s : State) : Answer := .next (runSeq (seqRetCc .c) s)

/-- `RETI` (R291). -/
def execReti (s : State) : Answer := .next (runSeq retiSeq s)

/-- `JP C,nn` (R283). -/
def execJp_C_nn (nn : Word) (s : State) : Answer := .next (runSeq (seqJpCcNn .c) (s.withTmp16 nn))

/-- `CALL C,nn` (R288). -/
def execCall_C_nn (nn : Word) (s : State) : Answer :=
  .next (runSeq (seqCallCcNn .c) (s.withTmp16 nn))

/-- `RST 0x18` (R292). -/
def execRst_18 (s : State) : Answer := .next (runSeq (seqRst 3) s)

/-- `RST 0x20` (R292). -/
def execRst_20 (s : State) : Answer := .next (runSeq (seqRst 4) s)

/-- `JP HL` (R284). -/
def execJp_HL (s : State) : Answer := .next (runSeq seqJpHl s)

/-- `RST 0x28` (R292). -/
def execRst_28 (s : State) : Answer := .next (runSeq (seqRst 5) s)

/-- `RST 0x30` (R292). -/
def execRst_30 (s : State) : Answer := .next (runSeq (seqRst 6) s)

/-- `RST 0x38` (R292). -/
def execRst_38 (s : State) : Answer := .next (runSeq (seqRst 7) s)

end Sys2Proof.Machine
end

