-- ==== Sys2Proof/Machine/Load16.lean ====
section
/-! DEFINITION. 16-bit loads and the stack (42_load16.md R190 to R195): the sequences, then one meaning per
opcode row. -/

namespace Sys2Proof.Machine

/-- `LD rr,nn` (R190). -/
def seqLdRrNn (p : RegPair) : List Micro :=
  [Micro.of fun s => s.withRegs (s.regs.setPair p s.cpu.tmp16)]

/-- `LD (nn),SP`: low byte at `nn`, then high byte at `nn + 1` (R191, R80). -/
def seqLdNnSp : List Micro :=
  [Micro.idle,
   Micro.of fun s => memWrite s s.cpu.tmp16 (lowByte s.regs.sp),
   Micro.of fun s => memWrite s (s.cpu.tmp16 + 1) (highByte s.regs.sp)]

/-- `LD SP,HL` (R192). -/
def seqLdSpHl : List Micro := [Micro.idle, Micro.of fun s => s.setSp s.regs.hl]

/-- `PUSH rr`: high byte first, at the higher address (R193). -/
def seqPush (p : StackPair) : List Micro :=
  [Micro.idle, Micro.idle,
   Micro.of fun s => pushByte s (highByte (s.regs.getStackPair p)),
   Micro.of fun s => pushByte s (lowByte (s.regs.getStackPair p))]

/-- `POP rr`: the high byte completes `tmp16`, which the pair takes (R194). -/
def seqPop (p : StackPair) : List Micro :=
  [Micro.idle, Micro.of popLow, Micro.of fun s =>
    let t := popHigh s
    t.withRegs (t.regs.setStackPair p t.cpu.tmp16)]

/-- `LD HL,SP+e` (R195). -/
def seqLdHlSpE : List Micro :=
  [Micro.idle, Micro.of fun s => s.withRegs (s.regs.ldHlSp s.cpu.tmp8)]

/-- `LD BC,nn` (R190). -/
def execLd_BC_nn (nn : Word) (s : State) : Answer := .next (runSeq (seqLdRrNn .bc) (s.withTmp16 nn))

/-- `LD (nn),SP` (R191). -/
def execLd_mnn_SP (nn : Word) (s : State) : Answer := .next (runSeq seqLdNnSp (s.withTmp16 nn))

/-- `LD DE,nn` (R190). -/
def execLd_DE_nn (nn : Word) (s : State) : Answer := .next (runSeq (seqLdRrNn .de) (s.withTmp16 nn))

/-- `LD HL,nn` (R190). -/
def execLd_HL_nn (nn : Word) (s : State) : Answer := .next (runSeq (seqLdRrNn .hl) (s.withTmp16 nn))

/-- `LD SP,nn` (R190). -/
def execLd_SP_nn (nn : Word) (s : State) : Answer := .next (runSeq (seqLdRrNn .sp) (s.withTmp16 nn))

/-- `POP BC` (R194). -/
def execPop_BC (s : State) : Answer := .next (runSeq (seqPop .bc) s)

/-- `PUSH BC` (R193). -/
def execPush_BC (s : State) : Answer := .next (runSeq (seqPush .bc) s)

/-- `POP DE` (R194). -/
def execPop_DE (s : State) : Answer := .next (runSeq (seqPop .de) s)

/-- `PUSH DE` (R193). -/
def execPush_DE (s : State) : Answer := .next (runSeq (seqPush .de) s)

/-- `POP HL` (R194). -/
def execPop_HL (s : State) : Answer := .next (runSeq (seqPop .hl) s)

/-- `PUSH HL` (R193). -/
def execPush_HL (s : State) : Answer := .next (runSeq (seqPush .hl) s)

/-- `POP AF` (R194). -/
def execPop_AF (s : State) : Answer := .next (runSeq (seqPop .af) s)

/-- `PUSH AF` (R193). -/
def execPush_AF (s : State) : Answer := .next (runSeq (seqPush .af) s)

/-- `LD HL,SP+e` (R195). -/
def execLd_HL_SPe (e : Byte) (s : State) : Answer := .next (runSeq seqLdHlSpE (s.withTmp8 e))

/-- `LD SP,HL` (R192). -/
def execLd_SP_HL (s : State) : Answer := .next (runSeq seqLdSpHl s)

end Sys2Proof.Machine
end

