-- ==== Sys2Proof/Machine/Load8.lean ====
section
/-! DEFINITION. 8-bit loads (41_load8.md R170 to R189): the sequences, then one meaning per opcode row. A
sequence starts in the machine cycle of the instruction's last fetch. -/

namespace Sys2Proof.Machine

/-- read-from-address-into-temp, then `x[dst] <- tmp8` (R189). -/
def loadInto (dst : Reg8) (a : Word) (s : State) : State :=
  let t := readTemp s a
  t.setReg dst t.cpu.tmp8

/-- The machine with `x[HL]` replaced. -/
def State.setHl (s : State) (v : Word) : State := s.withRegs (s.regs.setPair .hl v)

/-- The page that the `LDH` forms reach: `0xFF00 | zext_16(v)` (R122, R181 to R184). -/
def highPage (v : Byte) : Word := 0xFF00 ||| zext16 v

/-- `LD r,r'` (R170). -/
def seqLdRR (dst src : Reg8) : List Micro := [Micro.of fun s => s.setReg dst (s.regs.get src)]

/-- `LD r,n` (R171). -/
def seqLdRN (dst : Reg8) : List Micro := [Micro.of fun s => s.setReg dst s.cpu.tmp8]

/-- `LD r,(HL)` (R172). -/
def seqLdRHl (dst : Reg8) : List Micro :=
  [Micro.idle, Micro.of fun s => loadInto dst s.regs.hl s]

/-- `LD (HL),r` (R173). -/
def seqLdHlR (src : Reg8) : List Micro :=
  [Micro.idle, Micro.of fun s => memWrite s s.regs.hl (s.regs.get src)]

/-- `LD (HL),n` (R174). -/
def seqLdHlN : List Micro := [Micro.idle, Micro.of fun s => memWrite s s.regs.hl s.cpu.tmp8]

/-- `LD A,(BC)` and `LD A,(DE)` (R175, R176). -/
def seqLdAPair (p : RegPair) : List Micro :=
  [Micro.idle, Micro.of fun s => loadInto .a (s.regs.getPair p) s]

/-- `LD (BC),A` and `LD (DE),A` (R177, R178). -/
def seqLdPairA (p : RegPair) : List Micro :=
  [Micro.idle, Micro.of fun s => memWrite s (s.regs.getPair p) s.regs.a]

/-- `LD A,(nn)` (R179). -/
def seqLdANn : List Micro := [Micro.idle, Micro.of fun s => loadInto .a s.cpu.tmp16 s]

/-- `LD (nn),A` (R180). -/
def seqLdNnA : List Micro := [Micro.idle, Micro.of fun s => memWrite s s.cpu.tmp16 s.regs.a]

/-- `LDH A,(C)` (R181). -/
def seqLdhAC : List Micro := [Micro.idle, Micro.of fun s => loadInto .a (highPage s.regs.c) s]

/-- `LDH (C),A` (R182). -/
def seqLdhCA : List Micro := [Micro.idle, Micro.of fun s => memWrite s (highPage s.regs.c) s.regs.a]

/-- `LDH A,(n)` (R183). -/
def seqLdhAN : List Micro := [Micro.idle, Micro.of fun s => loadInto .a (highPage s.cpu.tmp8) s]

/-- `LDH (n),A` (R184). -/
def seqLdhNA : List Micro :=
  [Micro.idle, Micro.of fun s => memWrite s (highPage s.cpu.tmp8) s.regs.a]

/-- `LD A,(HL-)`: the pair moves in the read cycle, then `A` is written (R185). -/
def seqLdAHld : List Micro :=
  [Micro.idle, Micro.of fun s =>
    let t := (readTemp s s.regs.hl).setHl (s.regs.hl - 1)
    t.setReg .a t.cpu.tmp8]

/-- `LD (HL-),A` (R186). -/
def seqLdHldA : List Micro :=
  [Micro.idle, Micro.of fun s => (memWrite s s.regs.hl s.regs.a).setHl (s.regs.hl - 1)]

/-- `LD A,(HL+)` (R187). -/
def seqLdAHli : List Micro :=
  [Micro.idle, Micro.of fun s =>
    let t := (readTemp s s.regs.hl).setHl (s.regs.hl + 1)
    t.setReg .a t.cpu.tmp8]

/-- `LD (HL+),A` (R188). -/
def seqLdHliA : List Micro :=
  [Micro.idle, Micro.of fun s => (memWrite s s.regs.hl s.regs.a).setHl (s.regs.hl + 1)]

/-- `LD (BC),A` (R177). -/
def execLd_mBC_A (s : State) : Answer := .next (runSeq (seqLdPairA .bc) s)

/-- `LD B,n` (R171). -/
def execLd_B_n (n : Byte) (s : State) : Answer := .next (runSeq (seqLdRN .b) (s.withTmp8 n))

/-- `LD A,(BC)` (R175). -/
def execLd_A_mBC (s : State) : Answer := .next (runSeq (seqLdAPair .bc) s)

/-- `LD C,n` (R171). -/
def execLd_C_n (n : Byte) (s : State) : Answer := .next (runSeq (seqLdRN .c) (s.withTmp8 n))

/-- `LD (DE),A` (R178). -/
def execLd_mDE_A (s : State) : Answer := .next (runSeq (seqLdPairA .de) s)

/-- `LD D,n` (R171). -/
def execLd_D_n (n : Byte) (s : State) : Answer := .next (runSeq (seqLdRN .d) (s.withTmp8 n))

/-- `LD A,(DE)` (R176). -/
def execLd_A_mDE (s : State) : Answer := .next (runSeq (seqLdAPair .de) s)

/-- `LD E,n` (R171). -/
def execLd_E_n (n : Byte) (s : State) : Answer := .next (runSeq (seqLdRN .e) (s.withTmp8 n))

/-- `LD (HL+),A` (R188). -/
def execLd_mHLi_A (s : State) : Answer := .next (runSeq seqLdHliA s)

/-- `LD H,n` (R171). -/
def execLd_H_n (n : Byte) (s : State) : Answer := .next (runSeq (seqLdRN .h) (s.withTmp8 n))

/-- `LD A,(HL+)` (R187). -/
def execLd_A_mHLi (s : State) : Answer := .next (runSeq seqLdAHli s)

/-- `LD L,n` (R171). -/
def execLd_L_n (n : Byte) (s : State) : Answer := .next (runSeq (seqLdRN .l) (s.withTmp8 n))

/-- `LD (HL-),A` (R186). -/
def execLd_mHLd_A (s : State) : Answer := .next (runSeq seqLdHldA s)

/-- `LD (HL),n` (R174). -/
def execLd_mHL_n (n : Byte) (s : State) : Answer := .next (runSeq seqLdHlN (s.withTmp8 n))

/-- `LD A,(HL-)` (R185). -/
def execLd_A_mHLd (s : State) : Answer := .next (runSeq seqLdAHld s)

/-- `LD A,n` (R171). -/
def execLd_A_n (n : Byte) (s : State) : Answer := .next (runSeq (seqLdRN .a) (s.withTmp8 n))

/-- `LD B,B` (R170). -/
def execLd_B_B (s : State) : Answer := .next (runSeq (seqLdRR .b .b) s)

/-- `LD B,C` (R170). -/
def execLd_B_C (s : State) : Answer := .next (runSeq (seqLdRR .b .c) s)

/-- `LD B,D` (R170). -/
def execLd_B_D (s : State) : Answer := .next (runSeq (seqLdRR .b .d) s)

/-- `LD B,E` (R170). -/
def execLd_B_E (s : State) : Answer := .next (runSeq (seqLdRR .b .e) s)

/-- `LD B,H` (R170). -/
def execLd_B_H (s : State) : Answer := .next (runSeq (seqLdRR .b .h) s)

/-- `LD B,L` (R170). -/
def execLd_B_L (s : State) : Answer := .next (runSeq (seqLdRR .b .l) s)

/-- `LD B,(HL)` (R172). -/
def execLd_B_mHL (s : State) : Answer := .next (runSeq (seqLdRHl .b) s)

/-- `LD B,A` (R170). -/
def execLd_B_A (s : State) : Answer := .next (runSeq (seqLdRR .b .a) s)

/-- `LD C,B` (R170). -/
def execLd_C_B (s : State) : Answer := .next (runSeq (seqLdRR .c .b) s)

/-- `LD C,C` (R170). -/
def execLd_C_C (s : State) : Answer := .next (runSeq (seqLdRR .c .c) s)

/-- `LD C,D` (R170). -/
def execLd_C_D (s : State) : Answer := .next (runSeq (seqLdRR .c .d) s)

/-- `LD C,E` (R170). -/
def execLd_C_E (s : State) : Answer := .next (runSeq (seqLdRR .c .e) s)

/-- `LD C,H` (R170). -/
def execLd_C_H (s : State) : Answer := .next (runSeq (seqLdRR .c .h) s)

/-- `LD C,L` (R170). -/
def execLd_C_L (s : State) : Answer := .next (runSeq (seqLdRR .c .l) s)

/-- `LD C,(HL)` (R172). -/
def execLd_C_mHL (s : State) : Answer := .next (runSeq (seqLdRHl .c) s)

/-- `LD C,A` (R170). -/
def execLd_C_A (s : State) : Answer := .next (runSeq (seqLdRR .c .a) s)

/-- `LD D,B` (R170). -/
def execLd_D_B (s : State) : Answer := .next (runSeq (seqLdRR .d .b) s)

/-- `LD D,C` (R170). -/
def execLd_D_C (s : State) : Answer := .next (runSeq (seqLdRR .d .c) s)

/-- `LD D,D` (R170). -/
def execLd_D_D (s : State) : Answer := .next (runSeq (seqLdRR .d .d) s)

/-- `LD D,E` (R170). -/
def execLd_D_E (s : State) : Answer := .next (runSeq (seqLdRR .d .e) s)

/-- `LD D,H` (R170). -/
def execLd_D_H (s : State) : Answer := .next (runSeq (seqLdRR .d .h) s)

/-- `LD D,L` (R170). -/
def execLd_D_L (s : State) : Answer := .next (runSeq (seqLdRR .d .l) s)

/-- `LD D,(HL)` (R172). -/
def execLd_D_mHL (s : State) : Answer := .next (runSeq (seqLdRHl .d) s)

/-- `LD D,A` (R170). -/
def execLd_D_A (s : State) : Answer := .next (runSeq (seqLdRR .d .a) s)

/-- `LD E,B` (R170). -/
def execLd_E_B (s : State) : Answer := .next (runSeq (seqLdRR .e .b) s)

/-- `LD E,C` (R170). -/
def execLd_E_C (s : State) : Answer := .next (runSeq (seqLdRR .e .c) s)

/-- `LD E,D` (R170). -/
def execLd_E_D (s : State) : Answer := .next (runSeq (seqLdRR .e .d) s)

/-- `LD E,E` (R170). -/
def execLd_E_E (s : State) : Answer := .next (runSeq (seqLdRR .e .e) s)

/-- `LD E,H` (R170). -/
def execLd_E_H (s : State) : Answer := .next (runSeq (seqLdRR .e .h) s)

/-- `LD E,L` (R170). -/
def execLd_E_L (s : State) : Answer := .next (runSeq (seqLdRR .e .l) s)

/-- `LD E,(HL)` (R172). -/
def execLd_E_mHL (s : State) : Answer := .next (runSeq (seqLdRHl .e) s)

/-- `LD E,A` (R170). -/
def execLd_E_A (s : State) : Answer := .next (runSeq (seqLdRR .e .a) s)

/-- `LD H,B` (R170). -/
def execLd_H_B (s : State) : Answer := .next (runSeq (seqLdRR .h .b) s)

/-- `LD H,C` (R170). -/
def execLd_H_C (s : State) : Answer := .next (runSeq (seqLdRR .h .c) s)

/-- `LD H,D` (R170). -/
def execLd_H_D (s : State) : Answer := .next (runSeq (seqLdRR .h .d) s)

/-- `LD H,E` (R170). -/
def execLd_H_E (s : State) : Answer := .next (runSeq (seqLdRR .h .e) s)

/-- `LD H,H` (R170). -/
def execLd_H_H (s : State) : Answer := .next (runSeq (seqLdRR .h .h) s)

/-- `LD H,L` (R170). -/
def execLd_H_L (s : State) : Answer := .next (runSeq (seqLdRR .h .l) s)

/-- `LD H,(HL)` (R172). -/
def execLd_H_mHL (s : State) : Answer := .next (runSeq (seqLdRHl .h) s)

/-- `LD H,A` (R170). -/
def execLd_H_A (s : State) : Answer := .next (runSeq (seqLdRR .h .a) s)

/-- `LD L,B` (R170). -/
def execLd_L_B (s : State) : Answer := .next (runSeq (seqLdRR .l .b) s)

/-- `LD L,C` (R170). -/
def execLd_L_C (s : State) : Answer := .next (runSeq (seqLdRR .l .c) s)

/-- `LD L,D` (R170). -/
def execLd_L_D (s : State) : Answer := .next (runSeq (seqLdRR .l .d) s)

/-- `LD L,E` (R170). -/
def execLd_L_E (s : State) : Answer := .next (runSeq (seqLdRR .l .e) s)

/-- `LD L,H` (R170). -/
def execLd_L_H (s : State) : Answer := .next (runSeq (seqLdRR .l .h) s)

/-- `LD L,L` (R170). -/
def execLd_L_L (s : State) : Answer := .next (runSeq (seqLdRR .l .l) s)

/-- `LD L,(HL)` (R172). -/
def execLd_L_mHL (s : State) : Answer := .next (runSeq (seqLdRHl .l) s)

/-- `LD L,A` (R170). -/
def execLd_L_A (s : State) : Answer := .next (runSeq (seqLdRR .l .a) s)

/-- `LD (HL),B` (R173). -/
def execLd_mHL_B (s : State) : Answer := .next (runSeq (seqLdHlR .b) s)

/-- `LD (HL),C` (R173). -/
def execLd_mHL_C (s : State) : Answer := .next (runSeq (seqLdHlR .c) s)

/-- `LD (HL),D` (R173). -/
def execLd_mHL_D (s : State) : Answer := .next (runSeq (seqLdHlR .d) s)

/-- `LD (HL),E` (R173). -/
def execLd_mHL_E (s : State) : Answer := .next (runSeq (seqLdHlR .e) s)

/-- `LD (HL),H` (R173). -/
def execLd_mHL_H (s : State) : Answer := .next (runSeq (seqLdHlR .h) s)

/-- `LD (HL),L` (R173). -/
def execLd_mHL_L (s : State) : Answer := .next (runSeq (seqLdHlR .l) s)

/-- `LD (HL),A` (R173). -/
def execLd_mHL_A (s : State) : Answer := .next (runSeq (seqLdHlR .a) s)

/-- `LD A,B` (R170). -/
def execLd_A_B (s : State) : Answer := .next (runSeq (seqLdRR .a .b) s)

/-- `LD A,C` (R170). -/
def execLd_A_C (s : State) : Answer := .next (runSeq (seqLdRR .a .c) s)

/-- `LD A,D` (R170). -/
def execLd_A_D (s : State) : Answer := .next (runSeq (seqLdRR .a .d) s)

/-- `LD A,E` (R170). -/
def execLd_A_E (s : State) : Answer := .next (runSeq (seqLdRR .a .e) s)

/-- `LD A,H` (R170). -/
def execLd_A_H (s : State) : Answer := .next (runSeq (seqLdRR .a .h) s)

/-- `LD A,L` (R170). -/
def execLd_A_L (s : State) : Answer := .next (runSeq (seqLdRR .a .l) s)

/-- `LD A,(HL)` (R172). -/
def execLd_A_mHL (s : State) : Answer := .next (runSeq (seqLdRHl .a) s)

/-- `LD A,A` (R170). -/
def execLd_A_A (s : State) : Answer := .next (runSeq (seqLdRR .a .a) s)

/-- `LDH (n),A` (R184). -/
def execLdh_mn_A (n : Byte) (s : State) : Answer := .next (runSeq seqLdhNA (s.withTmp8 n))

/-- `LDH (C),A` (R182). -/
def execLdh_mC_A (s : State) : Answer := .next (runSeq seqLdhCA s)

/-- `LD (nn),A` (R180). -/
def execLd_mnn_A (nn : Word) (s : State) : Answer := .next (runSeq seqLdNnA (s.withTmp16 nn))

/-- `LDH A,(n)` (R183). -/
def execLdh_A_mn (n : Byte) (s : State) : Answer := .next (runSeq seqLdhAN (s.withTmp8 n))

/-- `LDH A,(C)` (R181). -/
def execLdh_A_mC (s : State) : Answer := .next (runSeq seqLdhAC s)

/-- `LD A,(nn)` (R179). -/
def execLd_A_mnn (nn : Word) (s : State) : Answer := .next (runSeq seqLdANn (s.withTmp16 nn))

end Sys2Proof.Machine
end

