-- ==== Sys2Proof/Machine/Rotate.lean ====
section
/-! DEFINITION. Rotates and shifts (45_rotate_shift_bit.md R245 to R266): the sequences, then one meaning per
opcode row. A second-table sequence starts in the cycle that fetches the second opcode (R250). -/

namespace Sys2Proof.Machine

/-- `RLCA`, `RRCA`, `RLA`, `RRA` (R246 to R249). -/
def seqRotA (o : RotOp) : List Micro := [Micro.of fun s => s.withRegs (s.regs.rotA o)]

/-- `rot[y] r` (R250 to R265). -/
def seqRotR (o : RotOp) (r : Reg8) : List Micro :=
  [Micro.of fun s => s.withRegs (s.regs.rotReg o r)]

/-- `rot[y] (HL)`: a read cycle, then a write cycle (R250 to R266). DESIGN CHOICE (log 26): `F` is written in the write
cycle `M4`; R250 puts flags in a cycle for `BIT` only. -/
def seqRotHl (o : RotOp) : List Micro :=
  [Micro.idle,
   Micro.of fun s => readTemp s s.regs.hl,
   Micro.of fun s =>
    let q := rotResult o s.cpu.tmp8 s.regs.flagC
    let t := memWrite s s.regs.hl q.value
    t.withRegs { t.regs with f := q.flags }]

/-- `RLCA` (R246). -/
def execRlca (s : State) : Answer := .next (runSeq (seqRotA .rlc) s)

/-- `RRCA` (R247). -/
def execRrca (s : State) : Answer := .next (runSeq (seqRotA .rrc) s)

/-- `RLA` (R248). -/
def execRla (s : State) : Answer := .next (runSeq (seqRotA .rl) s)

/-- `RRA` (R249). -/
def execRra (s : State) : Answer := .next (runSeq (seqRotA .rr) s)

/-- `RLC B` (R251). -/
def execRlc_B (s : State) : Answer := .next (runSeq (seqRotR .rlc .b) s)

/-- `RLC C` (R251). -/
def execRlc_C (s : State) : Answer := .next (runSeq (seqRotR .rlc .c) s)

/-- `RLC D` (R251). -/
def execRlc_D (s : State) : Answer := .next (runSeq (seqRotR .rlc .d) s)

/-- `RLC E` (R251). -/
def execRlc_E (s : State) : Answer := .next (runSeq (seqRotR .rlc .e) s)

/-- `RLC H` (R251). -/
def execRlc_H (s : State) : Answer := .next (runSeq (seqRotR .rlc .h) s)

/-- `RLC L` (R251). -/
def execRlc_L (s : State) : Answer := .next (runSeq (seqRotR .rlc .l) s)

/-- `RLC (HL)` (R252). -/
def execRlc_mHL (s : State) : Answer := .next (runSeq (seqRotHl .rlc) s)

/-- `RLC A` (R251). -/
def execRlc_A (s : State) : Answer := .next (runSeq (seqRotR .rlc .a) s)

/-- `RRC B` (R253). -/
def execRrc_B (s : State) : Answer := .next (runSeq (seqRotR .rrc .b) s)

/-- `RRC C` (R253). -/
def execRrc_C (s : State) : Answer := .next (runSeq (seqRotR .rrc .c) s)

/-- `RRC D` (R253). -/
def execRrc_D (s : State) : Answer := .next (runSeq (seqRotR .rrc .d) s)

/-- `RRC E` (R253). -/
def execRrc_E (s : State) : Answer := .next (runSeq (seqRotR .rrc .e) s)

/-- `RRC H` (R253). -/
def execRrc_H (s : State) : Answer := .next (runSeq (seqRotR .rrc .h) s)

/-- `RRC L` (R253). -/
def execRrc_L (s : State) : Answer := .next (runSeq (seqRotR .rrc .l) s)

/-- `RRC (HL)` (R254). -/
def execRrc_mHL (s : State) : Answer := .next (runSeq (seqRotHl .rrc) s)

/-- `RRC A` (R253). -/
def execRrc_A (s : State) : Answer := .next (runSeq (seqRotR .rrc .a) s)

/-- `RL B` (R255). -/
def execRl_B (s : State) : Answer := .next (runSeq (seqRotR .rl .b) s)

/-- `RL C` (R255). -/
def execRl_C (s : State) : Answer := .next (runSeq (seqRotR .rl .c) s)

/-- `RL D` (R255). -/
def execRl_D (s : State) : Answer := .next (runSeq (seqRotR .rl .d) s)

/-- `RL E` (R255). -/
def execRl_E (s : State) : Answer := .next (runSeq (seqRotR .rl .e) s)

/-- `RL H` (R255). -/
def execRl_H (s : State) : Answer := .next (runSeq (seqRotR .rl .h) s)

/-- `RL L` (R255). -/
def execRl_L (s : State) : Answer := .next (runSeq (seqRotR .rl .l) s)

/-- `RL (HL)` (R256). -/
def execRl_mHL (s : State) : Answer := .next (runSeq (seqRotHl .rl) s)

/-- `RL A` (R255). -/
def execRl_A (s : State) : Answer := .next (runSeq (seqRotR .rl .a) s)

/-- `RR B` (R257). -/
def execRr_B (s : State) : Answer := .next (runSeq (seqRotR .rr .b) s)

/-- `RR C` (R257). -/
def execRr_C (s : State) : Answer := .next (runSeq (seqRotR .rr .c) s)

/-- `RR D` (R257). -/
def execRr_D (s : State) : Answer := .next (runSeq (seqRotR .rr .d) s)

/-- `RR E` (R257). -/
def execRr_E (s : State) : Answer := .next (runSeq (seqRotR .rr .e) s)

/-- `RR H` (R257). -/
def execRr_H (s : State) : Answer := .next (runSeq (seqRotR .rr .h) s)

/-- `RR L` (R257). -/
def execRr_L (s : State) : Answer := .next (runSeq (seqRotR .rr .l) s)

/-- `RR (HL)` (R258). -/
def execRr_mHL (s : State) : Answer := .next (runSeq (seqRotHl .rr) s)

/-- `RR A` (R257). -/
def execRr_A (s : State) : Answer := .next (runSeq (seqRotR .rr .a) s)

/-- `SLA B` (R259). -/
def execSla_B (s : State) : Answer := .next (runSeq (seqRotR .sla .b) s)

/-- `SLA C` (R259). -/
def execSla_C (s : State) : Answer := .next (runSeq (seqRotR .sla .c) s)

/-- `SLA D` (R259). -/
def execSla_D (s : State) : Answer := .next (runSeq (seqRotR .sla .d) s)

/-- `SLA E` (R259). -/
def execSla_E (s : State) : Answer := .next (runSeq (seqRotR .sla .e) s)

/-- `SLA H` (R259). -/
def execSla_H (s : State) : Answer := .next (runSeq (seqRotR .sla .h) s)

/-- `SLA L` (R259). -/
def execSla_L (s : State) : Answer := .next (runSeq (seqRotR .sla .l) s)

/-- `SLA (HL)` (R260). -/
def execSla_mHL (s : State) : Answer := .next (runSeq (seqRotHl .sla) s)

/-- `SLA A` (R259). -/
def execSla_A (s : State) : Answer := .next (runSeq (seqRotR .sla .a) s)

/-- `SRA B` (R261). -/
def execSra_B (s : State) : Answer := .next (runSeq (seqRotR .sra .b) s)

/-- `SRA C` (R261). -/
def execSra_C (s : State) : Answer := .next (runSeq (seqRotR .sra .c) s)

/-- `SRA D` (R261). -/
def execSra_D (s : State) : Answer := .next (runSeq (seqRotR .sra .d) s)

/-- `SRA E` (R261). -/
def execSra_E (s : State) : Answer := .next (runSeq (seqRotR .sra .e) s)

/-- `SRA H` (R261). -/
def execSra_H (s : State) : Answer := .next (runSeq (seqRotR .sra .h) s)

/-- `SRA L` (R261). -/
def execSra_L (s : State) : Answer := .next (runSeq (seqRotR .sra .l) s)

/-- `SRA (HL)` (R262). -/
def execSra_mHL (s : State) : Answer := .next (runSeq (seqRotHl .sra) s)

/-- `SRA A` (R261). -/
def execSra_A (s : State) : Answer := .next (runSeq (seqRotR .sra .a) s)

/-- `SWAP B` (R263). -/
def execSwap_B (s : State) : Answer := .next (runSeq (seqRotR .swap .b) s)

/-- `SWAP C` (R263). -/
def execSwap_C (s : State) : Answer := .next (runSeq (seqRotR .swap .c) s)

/-- `SWAP D` (R263). -/
def execSwap_D (s : State) : Answer := .next (runSeq (seqRotR .swap .d) s)

/-- `SWAP E` (R263). -/
def execSwap_E (s : State) : Answer := .next (runSeq (seqRotR .swap .e) s)

/-- `SWAP H` (R263). -/
def execSwap_H (s : State) : Answer := .next (runSeq (seqRotR .swap .h) s)

/-- `SWAP L` (R263). -/
def execSwap_L (s : State) : Answer := .next (runSeq (seqRotR .swap .l) s)

/-- `SWAP (HL)` (R264). -/
def execSwap_mHL (s : State) : Answer := .next (runSeq (seqRotHl .swap) s)

/-- `SWAP A` (R263). -/
def execSwap_A (s : State) : Answer := .next (runSeq (seqRotR .swap .a) s)

/-- `SRL B` (R265). -/
def execSrl_B (s : State) : Answer := .next (runSeq (seqRotR .srl .b) s)

/-- `SRL C` (R265). -/
def execSrl_C (s : State) : Answer := .next (runSeq (seqRotR .srl .c) s)

/-- `SRL D` (R265). -/
def execSrl_D (s : State) : Answer := .next (runSeq (seqRotR .srl .d) s)

/-- `SRL E` (R265). -/
def execSrl_E (s : State) : Answer := .next (runSeq (seqRotR .srl .e) s)

/-- `SRL H` (R265). -/
def execSrl_H (s : State) : Answer := .next (runSeq (seqRotR .srl .h) s)

/-- `SRL L` (R265). -/
def execSrl_L (s : State) : Answer := .next (runSeq (seqRotR .srl .l) s)

/-- `SRL (HL)` (R266). -/
def execSrl_mHL (s : State) : Answer := .next (runSeq (seqRotHl .srl) s)

/-- `SRL A` (R265). -/
def execSrl_A (s : State) : Answer := .next (runSeq (seqRotR .srl .a) s)

end Sys2Proof.Machine
end

