-- ==== Sys2Proof/Machine/SystemOps.lean ====
section
/-! DEFINITION. The sequences of the system instructions (47_system.md R295 to R299). -/

namespace Sys2Proof.Machine

/-- `NOP` (R295). -/
def seqNop : List Micro := [Micro.idle]

/-- What `HALT` does in its `M1` (R296). -/
def enterHalt (s : State) : State :=
  match s.cfg.haltBugScope with
  | .anyWakeWithIme0 => s.withCpuState .halted
  | .onlyIfPendingAtHalt =>
    if !s.cpu.ime && decide (s.irq.pending ≠ 0) then s.withCpu { s.cpu with haltBug := true }
    else s.withCpuState .halted

/-- `HALT` (R296). -/
def seqHalt : List Micro := [Micro.of enterHalt]

/-- Whether `STOP` is a speed switch (R297, R451). -/
def switchesSpeed (s : State) : Bool := s.cfg.rev == .cgb && s.cpu.speedArmed

/-- What `STOP` does in its `M1`: the pad byte is skipped unread, then a speed switch or the stop
(R297, R139). -/
def enterStop (s : State) : State :=
  let t := s.setPc (s.regs.pc + BitVec.ofNat 16 (s.cfg.stopLength - 1))
  if switchesSpeed s then
    t.withCpu { t.cpu with
      doubleSpeed := !t.cpu.doubleSpeed, speedArmed := false, cpuState := .fetchingOpcode }
  else t.withCpuState .stopped

/-- `STOP` (R297). -/
def seqStop : List Micro := [Micro.of enterStop]

/-- `DI` (R298). -/
def seqDi : List Micro :=
  [Micro.of fun s => s.withCpu { s.cpu with ime := false, imePending := false }]

/-- `EI` (R299). -/
def seqEi : List Micro := [Micro.of fun s => s.withCpu { s.cpu with imePending := true }]

end Sys2Proof.Machine
end

