-- ==== Sys2Proof/Machine/Microcode.lean ====
section
/-! DEFINITION. The micro-operation interpreter: the selection of a primitive sequence by the fields of an
opcode byte (30_encoding.md R121, R127 to R131, R133), and the machine cycle of the core, `Tick()` and
`CpuStep()` (40_execution_engine.md R140 to R159). -/

namespace Sys2Proof.Machine

/-- `op[7:6]` (R121). -/
def fieldX (op : Byte) : Nat := op.toNat / 64

/-- `op[5:3]` (R121). -/
def fieldY (op : Byte) : Nat := op.toNat / 8 % 8

/-- `op[2:0]` (R121). -/
def fieldZ (op : Byte) : Nat := op.toNat % 8

/-- The entry `r[i]` of the 8-bit operand table; `none` is the memory byte at `HL` (R123). -/
def reg8Of (i : Nat) : Option Reg8 :=
  match i with
  | 0 => some .b
  | 1 => some .c
  | 2 => some .d
  | 3 => some .e
  | 4 => some .h
  | 5 => some .l
  | 6 => none
  | _ => some .a

/-- `rp[p]` (R124). -/
def pairOf (p : Nat) : RegPair :=
  match p with
  | 0 => .bc
  | 1 => .de
  | 2 => .hl
  | _ => .sp

/-- `rp2[p]` (R125). -/
def stackPairOf (p : Nat) : StackPair :=
  match p with
  | 0 => .bc
  | 1 => .de
  | 2 => .hl
  | _ => .af

/-- `cc[i]` (R126). -/
def condOf (i : Nat) : Cond :=
  match i with
  | 0 => .nz
  | 1 => .z
  | 2 => .nc
  | _ => .c

/-- `alu[y]` (R126). -/
def aluOf (y : Nat) : AluOp :=
  match y with
  | 0 => .add
  | 1 => .adc
  | 2 => .sub
  | 3 => .sbc
  | 4 => .and
  | 5 => .xor
  | 6 => .or
  | _ => .cp

/-- `rot[y]` (R126). -/
def rotOf (y : Nat) : RotOp :=
  match y with
  | 0 => .rlc
  | 1 => .rrc
  | 2 => .rl
  | 3 => .rr
  | 4 => .sla
  | 5 => .sra
  | 6 => .swap
  | _ => .srl

/-- First table, `x = 0`, `z = 0` (R127). -/
def formX0Z0 (y : Nat) : Form :=
  match y with
  | 0 => .nop
  | 1 => .ldNnSp
  | 2 => .stop
  | 3 => .jrE
  | _ => .jrCcE (condOf (y - 4))

/-- First table, `x = 0`, `z = 2` (R127). -/
def formX0Z2 (y : Nat) : Form :=
  match y with
  | 0 => .ldBcA
  | 1 => .ldABc
  | 2 => .ldDeA
  | 3 => .ldADe
  | 4 => .ldHliA
  | 5 => .ldAHli
  | 6 => .ldHldA
  | _ => .ldAHld

/-- First table, `x = 0`, `z = 7` (R127). -/
def formX0Z7 (y : Nat) : Form :=
  match y with
  | 0 => .rlca
  | 1 => .rrca
  | 2 => .rla
  | 3 => .rra
  | 4 => .daa
  | 5 => .cpl
  | 6 => .scf
  | _ => .ccf

/-- First table, `x = 0` (R127). -/
def formX0 (y z : Nat) : Form :=
  match z with
  | 0 => formX0Z0 y
  | 1 => if y % 2 = 0 then .ldRrNn (pairOf (y / 2)) else .addHlRr (pairOf (y / 2))
  | 2 => formX0Z2 y
  | 3 => if y % 2 = 0 then .incRr (pairOf (y / 2)) else .decRr (pairOf (y / 2))
  | 4 => match reg8Of y with
    | some r => .incR r
    | none => .incHl
  | 5 => match reg8Of y with
    | some r => .decR r
    | none => .decHl
  | 6 => match reg8Of y with
    | some r => .ldRN r
    | none => .ldHlN
  | _ => formX0Z7 y

/-- First table, `x = 1` (R128). -/
def formX1 (y z : Nat) : Form :=
  match reg8Of y, reg8Of z with
  | some dst, some src => .ldRR dst src
  | some dst, none => .ldRHl dst
  | none, some src => .ldHlR src
  | none, none => .halt

/-- First table, `x = 2` (R129). -/
def formX2 (y z : Nat) : Form :=
  match reg8Of z with
  | some r => .aluR (aluOf y) r
  | none => .aluHl (aluOf y)

/-- First table, `x = 3`, `z = 0` (R130). -/
def formX3Z0 (y : Nat) : Form :=
  match y with
  | 4 => .ldhNA
  | 5 => .addSpE
  | 6 => .ldhAN
  | 7 => .ldHlSpE
  | _ => .retCc (condOf y)

/-- First table, `x = 3`, `z = 1` (R130). -/
def formX3Z1 (y : Nat) : Form :=
  match y with
  | 1 => .ret
  | 3 => .reti
  | 5 => .jpHl
  | 7 => .ldSpHl
  | _ => .pop (stackPairOf (y / 2))

/-- First table, `x = 3`, `z = 2` (R130). -/
def formX3Z2 (y : Nat) : Form :=
  match y with
  | 4 => .ldhCA
  | 5 => .ldNnA
  | 6 => .ldhAC
  | 7 => .ldANn
  | _ => .jpCcNn (condOf y)

/-- First table, `x = 3`, `z = 3` (R130). -/
def formX3Z3 (y : Nat) : Form :=
  match y with
  | 0 => .jpNn
  | 1 => .prefixCb
  | 6 => .di
  | 7 => .ei
  | _ => .undefined

/-- First table, `x = 3`, `z = 5` (R130). -/
def formX3Z5 (y : Nat) : Form :=
  match y with
  | 1 => .callNn
  | 3 => .undefined
  | 5 => .undefined
  | 7 => .undefined
  | _ => .push (stackPairOf (y / 2))

/-- First table, `x = 3` (R130). -/
def formX3 (y z : Nat) : Form :=
  match z with
  | 0 => formX3Z0 y
  | 1 => formX3Z1 y
  | 2 => formX3Z2 y
  | 3 => formX3Z3 y
  | 4 => if y < 4 then .callCcNn (condOf y) else .undefined
  | 5 => formX3Z5 y
  | 6 => .aluN (aluOf y)
  | _ => .rst (Fin.ofNat 8 y)

/-- The first table (R127 to R130). -/
def formFirst (op : Byte) : Form :=
  match fieldX op with
  | 0 => formX0 (fieldY op) (fieldZ op)
  | 1 => formX1 (fieldY op) (fieldZ op)
  | 2 => formX2 (fieldY op) (fieldZ op)
  | _ => formX3 (fieldY op) (fieldZ op)

/-- The second table on a register operand (R131). -/
def formSecondReg (x y : Nat) (r : Reg8) : Form :=
  match x with
  | 0 => .rotR (rotOf y) r
  | 1 => .bitR (Fin.ofNat 8 y) r
  | 2 => .resR (Fin.ofNat 8 y) r
  | _ => .setR (Fin.ofNat 8 y) r

/-- The second table on the memory operand (R131). -/
def formSecondHl (x y : Nat) : Form :=
  match x with
  | 0 => .rotHl (rotOf y)
  | 1 => .bitHl (Fin.ofNat 8 y)
  | 2 => .resHl (Fin.ofNat 8 y)
  | _ => .setHl (Fin.ofNat 8 y)

/-- The second table (R131). -/
def formSecond (op : Byte) : Form :=
  match reg8Of (fieldZ op) with
  | some r => formSecondReg (fieldX op) (fieldY op) r
  | none => formSecondHl (fieldX op) (fieldY op)

/-- The instruction form selected by (`cb`, `ir`) (R144). -/
def formOf (cb : Bool) (ir : Byte) : Form := if cb then formSecond ir else formFirst ir

/-- The primitive sequence of a form from its last fetch on: the cycle tables of the instruction rules.
The prefix and an undefined opcode have none of their own (R142, R300, R301). -/
def formSeq (f : Form) : List Micro :=
  match f with
  | .nop => seqNop
  | .halt => seqHalt
  | .stop => seqStop
  | .di => seqDi
  | .ei => seqEi
  | .prefixCb => []
  | .undefined => []
  | .ldRR dst src => seqLdRR dst src
  | .ldRN dst => seqLdRN dst
  | .ldRHl dst => seqLdRHl dst
  | .ldHlR src => seqLdHlR src
  | .ldHlN => seqLdHlN
  | .ldABc => seqLdAPair .bc
  | .ldADe => seqLdAPair .de
  | .ldBcA => seqLdPairA .bc
  | .ldDeA => seqLdPairA .de
  | .ldANn => seqLdANn
  | .ldNnA => seqLdNnA
  | .ldhAC => seqLdhAC
  | .ldhCA => seqLdhCA
  | .ldhAN => seqLdhAN
  | .ldhNA => seqLdhNA
  | .ldAHld => seqLdAHld
  | .ldHldA => seqLdHldA
  | .ldAHli => seqLdAHli
  | .ldHliA => seqLdHliA
  | .ldRrNn p => seqLdRrNn p
  | .ldNnSp => seqLdNnSp
  | .ldSpHl => seqLdSpHl
  | .push p => seqPush p
  | .pop p => seqPop p
  | .ldHlSpE => seqLdHlSpE
  | .aluR o r => seqAluR o r
  | .aluHl o => seqAluHl o
  | .aluN o => seqAluN o
  | .incR r => seqIncR r
  | .incHl => seqIncHl
  | .decR r => seqDecR r
  | .decHl => seqDecHl
  | .daa => seqDaa
  | .cpl => seqCpl
  | .scf => seqScf
  | .ccf => seqCcf
  | .addHlRr p => seqAddHlRr p
  | .incRr p => seqIncRr p
  | .decRr p => seqDecRr p
  | .addSpE => seqAddSpE
  | .rlca => seqRotA .rlc
  | .rrca => seqRotA .rrc
  | .rla => seqRotA .rl
  | .rra => seqRotA .rr
  | .rotR o r => seqRotR o r
  | .rotHl o => seqRotHl o
  | .bitR k r => seqBitR k r
  | .bitHl k => seqBitHl k
  | .resR k r => seqResR k r
  | .resHl k => seqResHl k
  | .setR k r => seqSetR k r
  | .setHl k => seqSetHl k
  | .jpNn => seqJpNn
  | .jpCcNn cc => seqJpCcNn cc
  | .jpHl => seqJpHl
  | .jrE => seqJrE
  | .jrCcE cc => seqJrCcE cc
  | .callNn => seqCallNn
  | .callCcNn cc => seqCallCcNn cc
  | .ret => seqRet
  | .retCc cc => seqRetCc cc
  | .reti => retiSeq
  | .rst t => seqRst t

/-- The immediate fetches of a form, one machine cycle each (R120, R122); the pad byte of `STOP` is not
fetched (R139). -/
def formImmediates (f : Form) : List Micro :=
  match f with
  | .ldRN _ | .ldHlN | .ldhAN | .ldhNA | .ldHlSpE | .aluN _ | .addSpE | .jrE | .jrCcE _ =>
    [Micro.of fetchTemp8]
  | .ldANn | .ldNnA | .ldRrNn _ | .ldNnSp | .jpNn | .jpCcNn _ | .callNn | .callCcNn _ =>
    [Micro.of fetchTempLow, Micro.of fetchTempHigh]
  | .nop | .halt | .stop | .di | .ei | .prefixCb | .undefined | .ldRR _ _ | .ldRHl _ | .ldHlR _
  | .ldABc | .ldADe | .ldBcA | .ldDeA | .ldhAC | .ldhCA | .ldAHld | .ldHldA | .ldAHli | .ldHliA
  | .ldSpHl | .push _ | .pop _ | .aluR _ _ | .aluHl _ | .incR _ | .incHl | .decR _ | .decHl
  | .daa | .cpl | .scf | .ccf | .addHlRr _ | .incRr _ | .decRr _ | .rlca | .rrca | .rla | .rra
  | .rotR _ _ | .rotHl _ | .bitR _ _ | .bitHl _ | .resR _ _ | .resHl _ | .setR _ _ | .setHl _
  | .jpHl | .ret | .retCc _ | .reti | .rst _ => []

/-- Two primitives in one machine cycle: the last fetch and what executes in it (R147). -/
def Micro.merge (a b : Micro) : Micro where
  act := fun s => b.act (a.act s)
  stops := b.stops

/-- Fetches followed by a sequence that shares the last fetch's cycle. -/
def joinFetches : List Micro → List Micro → List Micro
  | [], body => body
  | [a], b :: rest => a.merge b :: rest
  | a :: more, body => a :: joinFetches more body

/-- The pre-expanded sequence of a form, one primitive per machine cycle after the opcode fetch; its
first element is what `M1` itself executes, or nothing (R142, R144). -/
def formPrimitives (f : Form) : List Micro :=
  match formImmediates f with
  | [] => formSeq f
  | fetches => Micro.idle :: joinFetches fetches (formSeq f)

/-- The form that `useq` names: its bit 8 is `cb` (R18). -/
def useqForm (u : BitVec 9) : Form := formOf (bit u 8) (u.setWidth 8)

/-- The processor going to the next primitive of its sequence, or to the instruction boundary (R143). -/
def advance (more : Bool) (s : State) : State :=
  if more then
    s.withCpu { s.cpu with cpuState := .executingPrimitiveSequence, upos := s.cpu.upos + 1 }
  else s.withCpu { s.cpu with upos := 0 }

/-- Perform primitive `m`; `rest` says whether others follow it. -/
def perform (m : Micro) (rest : List Micro) (s : State) : State :=
  let t := m.act s
  advance (!rest.isEmpty && !m.stops t) t

/-- What `M1` executes besides the fetch, or the cycle of the second fetch after the prefix (R144). -/
def startForm (f : Form) (s : State) : State :=
  match formPrimitives f with
  | [] => s
  | m :: rest => perform m rest s

/-- `M1`: the fetch, the selection of the sequence and what else the sequence puts in `M1` (R144, R152). -/
def firstCycle (s : State) : State :=
  let t := fetchOpcode s
  match formOf false t.cpu.ir with
  | .undefined => raiseUnsupported t.cpu.ir t
  | .prefixCb => advance true t
  | f => startForm f t

/-- `Boundary()` (R145). -/
def boundary (s : State) : State :=
  if accepts s then
    let t := irqSelect s
    t.withCpu { t.cpu with upos := 1 }
  else firstCycle (movePending s)

/-- The next cycle of an instruction in progress (R159); the second cycle of a prefixed instruction is
its second fetch (R144). -/
def continueSeq (s : State) : State :=
  match useqForm s.cpu.useq with
  | .prefixCb =>
    let t := fetchPrefixed (s.withCpu { s.cpu with cpuState := .fetchingOpcode, upos := 0 })
    startForm (formOf true t.cpu.ir) t
  | f =>
    match (formPrimitives f).drop s.cpu.upos with
    | [] => s.withCpu { s.cpu with cpuState := .fetchingOpcode, upos := 0 }
    | m :: rest =>
      let t := m.act s
      if !rest.isEmpty && !m.stops t then t.withCpu { t.cpu with upos := t.cpu.upos + 1 }
      else t.withCpu { t.cpu with cpuState := .fetchingOpcode, upos := 0 }

/-- The next of `I2` to `I5` (R153). -/
def continueEntry (s : State) : State :=
  match (irqSeq s.cfg.irqEntryCycles).drop s.cpu.upos with
  | [] => s.withCpu { s.cpu with cpuState := .fetchingOpcode, upos := 0 }
  | m :: rest =>
    let t := m.act s
    if rest.isEmpty then t.withCpu { t.cpu with upos := 0 }
    else t.withCpu { t.cpu with upos := t.cpu.upos + 1 }

/-- Whether the processor idles this cycle: `halted` with nothing pending, or `stopped` with no button
pressed (R154, R155). -/
def idles (s : State) : Bool :=
  match s.cpu.cpuState with
  | .halted => decide (s.irq.pending = 0)
  | .stopped => !anyButton s
  | .fetchingOpcode => false
  | .executingPrimitiveSequence => false
  | .servicingInterrupt => false

/-- Leaving `halted` or `stopped` (R154, R155, R159). -/
def wake (s : State) : State :=
  match s.cpu.cpuState with
  | .halted => wakeHalted s
  | .stopped => s.withCpuState .fetchingOpcode
  | .fetchingOpcode => s
  | .executingPrimitiveSequence => s
  | .servicingInterrupt => s

/-- `CpuStep()` and what it returns (R159). -/
def cpuStep (s : State) : State × Bool :=
  if s.cpu.cpuFault then (s, false)
  else if idles s then (s, true)
  else
    match s.cpu.cpuState with
    | .executingPrimitiveSequence => (continueSeq s, true)
    | .servicingInterrupt => (continueEntry s, true)
    | .fetchingOpcode => let t := boundary (wake s); (t, !t.cpu.cpuFault)
    | .halted => let t := boundary (wake s); (t, !t.cpu.cpuFault)
    | .stopped => let t := boundary (wake s); (t, !t.cpu.cpuFault)

/-- The processor's part of `Tick()`: skipped while stalled (R140, R150). -/
def cpuPart (s : State) : State × Bool :=
  if s.dma.cpuStall then (s, !s.cpu.cpuFault) else cpuStep s

/-- `Tick()`: one machine cycle of the whole core, and whether execution may continue (R140). -/
def tick (s : State) : State × Bool :=
  let r := cpuPart (tickHead s)
  (endTick r.1, r.2)

end Sys2Proof.Machine
end

