-- ==== Sys2Proof/Machine/System.lean ====
section
/-! DEFINITION. The system instructions, the prefix and the undefined opcodes (47_system.md R295 to R301):
one meaning per opcode row, over the sequences of SystemOps.lean. -/

namespace Sys2Proof.Machine

/-- `NOP` (R295). -/
def execNop (s : State) : Answer := .next (runSeq seqNop s)

/-- `STOP` (R297). -/
def execStop (s : State) : Answer := .next (runSeq seqStop s)

/-- `HALT` (R296). -/
def execHalt (s : State) : Answer := .next (runSeq seqHalt s)

/-- The prefix byte: the next cycle fetches the second opcode, whose sequence follows (R300). -/
def execPrefix_CB (s : State) : Answer :=
  let t := fetchPrefixed (nextCycle s)
  .next (runSeq (formSeq (formOf true t.cpu.ir)) t)

/-- An undefined opcode takes the exception `UnsupportedOpcode` (R301, R311). -/
def execUndefined (op : Byte) (s : State) : Answer := .next (raiseUnsupported op s)

/-- `DI` (R298). -/
def execDi (s : State) : Answer := .next (runSeq seqDi s)

/-- `EI` (R299). -/
def execEi (s : State) : Answer := .next (runSeq seqEi s)

end Sys2Proof.Machine
end

