-- ==== Sys2Proof/WellFormed.lean ====
section
/-! DEFINITION. Which instructions exist: the type of an immediate is its range (30_encoding.md R122), so the
one check is the byte of an undefined opcode (R133). -/

namespace Sys2Proof

/-- The eleven first-table bytes that select no instruction (R133). -/
def undefinedBytes : List Byte :=
  [0xD3, 0xDB, 0xDD, 0xE3, 0xE4, 0xEB, 0xEC, 0xED, 0xF4, 0xFC, 0xFD]

/-- Whether an instruction is one the encoding gives. -/
def Instr.wellFormed (i : Instr) : Bool :=
  match i with
  | .undefined op => undefinedBytes.contains op
  | _ => true

end Sys2Proof
end

