-- ==== Sys2Proof/Decode.lean ====
section
/-! DEFINITION. The decoder and the encoder (30_encoding.md R120 to R139). The tables are the two grids of
R132, one list per row of sixteen opcodes. -/

namespace Sys2Proof

/-- The instruction formats (R120). -/
inductive Format where
  | op | opD8 | opE8 | opD16 | opPad | pre | illegal
deriving DecidableEq, Repr

/-- What the decoder makes of a sequence of bytes. -/
inductive Decoded where
  /-- An instruction and the bytes after it. -/
  | instr (i : Instr) (rest : List Byte)
  /-- There is no byte. -/
  | noBytes
  /-- The opcode's immediate or pad bytes are missing. -/
  | truncated (op : Byte)
deriving DecidableEq, Repr

/-- The formats of the opcodes 0x00 to 0x0F (R120). -/
def formatRow0 : List Format :=
  [.op, .opD16, .op, .op, .op, .op, .opD8, .op, .opD16, .op, .op, .op, .op, .op, .opD8, .op]

/-- The formats of the opcodes 0x10 to 0x1F (R120). -/
def formatRow1 : List Format :=
  [.opPad, .opD16, .op, .op, .op, .op, .opD8, .op, .opE8, .op, .op, .op, .op, .op, .opD8, .op]

/-- The formats of the opcodes 0x20 to 0x2F (R120). -/
def formatRow2 : List Format :=
  [.opE8, .opD16, .op, .op, .op, .op, .opD8, .op, .opE8, .op, .op, .op, .op, .op, .opD8, .op]

/-- The formats of the opcodes 0x30 to 0x3F (R120). -/
def formatRow3 : List Format :=
  [.opE8, .opD16, .op, .op, .op, .op, .opD8, .op, .opE8, .op, .op, .op, .op, .op, .opD8, .op]

/-- The formats of the opcodes 0x40 to 0x4F (R120). -/
def formatRow4 : List Format :=
  [.op, .op, .op, .op, .op, .op, .op, .op, .op, .op, .op, .op, .op, .op, .op, .op]

/-- The formats of the opcodes 0x50 to 0x5F (R120). -/
def formatRow5 : List Format :=
  [.op, .op, .op, .op, .op, .op, .op, .op, .op, .op, .op, .op, .op, .op, .op, .op]

/-- The formats of the opcodes 0x60 to 0x6F (R120). -/
def formatRow6 : List Format :=
  [.op, .op, .op, .op, .op, .op, .op, .op, .op, .op, .op, .op, .op, .op, .op, .op]

/-- The formats of the opcodes 0x70 to 0x7F (R120). -/
def formatRow7 : List Format :=
  [.op, .op, .op, .op, .op, .op, .op, .op, .op, .op, .op, .op, .op, .op, .op, .op]

/-- The formats of the opcodes 0x80 to 0x8F (R120). -/
def formatRow8 : List Format :=
  [.op, .op, .op, .op, .op, .op, .op, .op, .op, .op, .op, .op, .op, .op, .op, .op]

/-- The formats of the opcodes 0x90 to 0x9F (R120). -/
def formatRow9 : List Format :=
  [.op, .op, .op, .op, .op, .op, .op, .op, .op, .op, .op, .op, .op, .op, .op, .op]

/-- The formats of the opcodes 0xA0 to 0xAF (R120). -/
def formatRowA : List Format :=
  [.op, .op, .op, .op, .op, .op, .op, .op, .op, .op, .op, .op, .op, .op, .op, .op]

/-- The formats of the opcodes 0xB0 to 0xBF (R120). -/
def formatRowB : List Format :=
  [.op, .op, .op, .op, .op, .op, .op, .op, .op, .op, .op, .op, .op, .op, .op, .op]

/-- The formats of the opcodes 0xC0 to 0xCF (R120). -/
def formatRowC : List Format :=
  [.op, .op, .opD16, .opD16, .opD16, .op, .opD8, .op, .op, .op, .opD16, .pre, .opD16, .opD16,
   .opD8, .op]

/-- The formats of the opcodes 0xD0 to 0xDF (R120). -/
def formatRowD : List Format :=
  [.op, .op, .opD16, .illegal, .opD16, .op, .opD8, .op, .op, .op, .opD16, .illegal, .opD16,
   .illegal, .opD8, .op]

/-- The formats of the opcodes 0xE0 to 0xEF (R120). -/
def formatRowE : List Format :=
  [.opD8, .op, .op, .illegal, .illegal, .op, .opD8, .op, .opE8, .op, .opD16, .illegal, .illegal,
   .illegal, .opD8, .op]

/-- The formats of the opcodes 0xF0 to 0xFF (R120). -/
def formatRowF : List Format :=
  [.opD8, .op, .op, .op, .illegal, .op, .opD8, .op, .opE8, .op, .opD16, .op, .illegal, .illegal,
   .opD8, .op]

/-- The format column of the first table (R120, R135). -/
def formatTable : List Format :=
  formatRow0 ++ formatRow1 ++ formatRow2 ++ formatRow3
    ++ formatRow4 ++ formatRow5 ++ formatRow6 ++ formatRow7
    ++ formatRow8 ++ formatRow9 ++ formatRowA ++ formatRowB
    ++ formatRowC ++ formatRowD ++ formatRowE ++ formatRowF

/-- The format of an opcode byte: it alone decides the length (R120, R135). -/
def formatOf (b0 : Byte) : Format := formatTable.getD b0.toNat .illegal

/-- The first table, opcodes 0x00 to 0x0F; `n` is byte 1, `nn` the 16-bit immediate (R132). -/
def firstRow0 (n : Byte) (nn : Word) : List Instr :=
  [.nop, .ld_BC_nn nn, .ld_mBC_A, .inc_BC, .inc_B, .dec_B, .ld_B_n n, .rlca, .ld_mnn_SP nn,
   .add_HL_BC, .ld_A_mBC, .dec_BC, .inc_C, .dec_C, .ld_C_n n, .rrca]

/-- The first table, opcodes 0x10 to 0x1F; `n` is byte 1, `nn` the 16-bit immediate (R132). -/
def firstRow1 (n : Byte) (nn : Word) : List Instr :=
  [.stop, .ld_DE_nn nn, .ld_mDE_A, .inc_DE, .inc_D, .dec_D, .ld_D_n n, .rla, .jr_e n, .add_HL_DE,
   .ld_A_mDE, .dec_DE, .inc_E, .dec_E, .ld_E_n n, .rra]

/-- The first table, opcodes 0x20 to 0x2F; `n` is byte 1, `nn` the 16-bit immediate (R132). -/
def firstRow2 (n : Byte) (nn : Word) : List Instr :=
  [.jr_NZ_e n, .ld_HL_nn nn, .ld_mHLi_A, .inc_HL, .inc_H, .dec_H, .ld_H_n n, .daa, .jr_Z_e n,
   .add_HL_HL, .ld_A_mHLi, .dec_HL, .inc_L, .dec_L, .ld_L_n n, .cpl]

/-- The first table, opcodes 0x30 to 0x3F; `n` is byte 1, `nn` the 16-bit immediate (R132). -/
def firstRow3 (n : Byte) (nn : Word) : List Instr :=
  [.jr_NC_e n, .ld_SP_nn nn, .ld_mHLd_A, .inc_SP, .inc_mHL, .dec_mHL, .ld_mHL_n n, .scf,
   .jr_C_e n, .add_HL_SP, .ld_A_mHLd, .dec_SP, .inc_A, .dec_A, .ld_A_n n, .ccf]

/-- The first table, opcodes 0x40 to 0x4F; `n` is byte 1, `nn` the 16-bit immediate (R132). -/
def firstRow4 (_ : Byte) (_ : Word) : List Instr :=
  [.ld_B_B, .ld_B_C, .ld_B_D, .ld_B_E, .ld_B_H, .ld_B_L, .ld_B_mHL, .ld_B_A, .ld_C_B, .ld_C_C,
   .ld_C_D, .ld_C_E, .ld_C_H, .ld_C_L, .ld_C_mHL, .ld_C_A]

/-- The first table, opcodes 0x50 to 0x5F; `n` is byte 1, `nn` the 16-bit immediate (R132). -/
def firstRow5 (_ : Byte) (_ : Word) : List Instr :=
  [.ld_D_B, .ld_D_C, .ld_D_D, .ld_D_E, .ld_D_H, .ld_D_L, .ld_D_mHL, .ld_D_A, .ld_E_B, .ld_E_C,
   .ld_E_D, .ld_E_E, .ld_E_H, .ld_E_L, .ld_E_mHL, .ld_E_A]

/-- The first table, opcodes 0x60 to 0x6F; `n` is byte 1, `nn` the 16-bit immediate (R132). -/
def firstRow6 (_ : Byte) (_ : Word) : List Instr :=
  [.ld_H_B, .ld_H_C, .ld_H_D, .ld_H_E, .ld_H_H, .ld_H_L, .ld_H_mHL, .ld_H_A, .ld_L_B, .ld_L_C,
   .ld_L_D, .ld_L_E, .ld_L_H, .ld_L_L, .ld_L_mHL, .ld_L_A]

/-- The first table, opcodes 0x70 to 0x7F; `n` is byte 1, `nn` the 16-bit immediate (R132). -/
def firstRow7 (_ : Byte) (_ : Word) : List Instr :=
  [.ld_mHL_B, .ld_mHL_C, .ld_mHL_D, .ld_mHL_E, .ld_mHL_H, .ld_mHL_L, .halt, .ld_mHL_A, .ld_A_B,
   .ld_A_C, .ld_A_D, .ld_A_E, .ld_A_H, .ld_A_L, .ld_A_mHL, .ld_A_A]

/-- The first table, opcodes 0x80 to 0x8F; `n` is byte 1, `nn` the 16-bit immediate (R132). -/
def firstRow8 (_ : Byte) (_ : Word) : List Instr :=
  [.add_A_B, .add_A_C, .add_A_D, .add_A_E, .add_A_H, .add_A_L, .add_A_mHL, .add_A_A, .adc_A_B,
   .adc_A_C, .adc_A_D, .adc_A_E, .adc_A_H, .adc_A_L, .adc_A_mHL, .adc_A_A]

/-- The first table, opcodes 0x90 to 0x9F; `n` is byte 1, `nn` the 16-bit immediate (R132). -/
def firstRow9 (_ : Byte) (_ : Word) : List Instr :=
  [.sub_B, .sub_C, .sub_D, .sub_E, .sub_H, .sub_L, .sub_mHL, .sub_A, .sbc_A_B, .sbc_A_C, .sbc_A_D,
   .sbc_A_E, .sbc_A_H, .sbc_A_L, .sbc_A_mHL, .sbc_A_A]

/-- The first table, opcodes 0xA0 to 0xAF; `n` is byte 1, `nn` the 16-bit immediate (R132). -/
def firstRowA (_ : Byte) (_ : Word) : List Instr :=
  [.and_B, .and_C, .and_D, .and_E, .and_H, .and_L, .and_mHL, .and_A, .xor_B, .xor_C, .xor_D,
   .xor_E, .xor_H, .xor_L, .xor_mHL, .xor_A]

/-- The first table, opcodes 0xB0 to 0xBF; `n` is byte 1, `nn` the 16-bit immediate (R132). -/
def firstRowB (_ : Byte) (_ : Word) : List Instr :=
  [.or_B, .or_C, .or_D, .or_E, .or_H, .or_L, .or_mHL, .or_A, .cp_B, .cp_C, .cp_D, .cp_E, .cp_H,
   .cp_L, .cp_mHL, .cp_A]

/-- The first table, opcodes 0xC0 to 0xCF; `n` is byte 1, `nn` the 16-bit immediate (R132). -/
def firstRowC (n : Byte) (nn : Word) : List Instr :=
  [.ret_NZ, .pop_BC, .jp_NZ_nn nn, .jp_nn nn, .call_NZ_nn nn, .push_BC, .add_A_n n, .rst_00,
   .ret_Z, .ret, .jp_Z_nn nn, .prefix_CB, .call_Z_nn nn, .call_nn nn, .adc_A_n n, .rst_08]

/-- The first table, opcodes 0xD0 to 0xDF; `n` is byte 1, `nn` the 16-bit immediate (R132). -/
def firstRowD (n : Byte) (nn : Word) : List Instr :=
  [.ret_NC, .pop_DE, .jp_NC_nn nn, .undefined 0xD3, .call_NC_nn nn, .push_DE, .sub_n n, .rst_10,
   .ret_C, .reti, .jp_C_nn nn, .undefined 0xDB, .call_C_nn nn, .undefined 0xDD, .sbc_A_n n, .rst_18]

/-- The first table, opcodes 0xE0 to 0xEF; `n` is byte 1, `nn` the 16-bit immediate (R132). -/
def firstRowE (n : Byte) (nn : Word) : List Instr :=
  [.ldh_mn_A n, .pop_HL, .ldh_mC_A, .undefined 0xE3, .undefined 0xE4, .push_HL, .and_n n, .rst_20,
   .add_SP_e n, .jp_HL, .ld_mnn_A nn, .undefined 0xEB, .undefined 0xEC, .undefined 0xED, .xor_n n,
   .rst_28]

/-- The first table, opcodes 0xF0 to 0xFF; `n` is byte 1, `nn` the 16-bit immediate (R132). -/
def firstRowF (n : Byte) (nn : Word) : List Instr :=
  [.ldh_A_mn n, .pop_AF, .ldh_A_mC, .di, .undefined 0xF4, .push_AF, .or_n n, .rst_30,
   .ld_HL_SPe n, .ld_SP_HL, .ld_A_mnn nn, .ei, .undefined 0xFC, .undefined 0xFD, .cp_n n, .rst_38]

/-- The first table (R132). -/
def firstTable (n : Byte) (nn : Word) : List Instr :=
  firstRow0 n nn ++ firstRow1 n nn ++ firstRow2 n nn ++ firstRow3 n nn
    ++ firstRow4 n nn ++ firstRow5 n nn ++ firstRow6 n nn ++ firstRow7 n nn
    ++ firstRow8 n nn ++ firstRow9 n nn ++ firstRowA n nn ++ firstRowB n nn
    ++ firstRowC n nn ++ firstRowD n nn ++ firstRowE n nn ++ firstRowF n nn

/-- The second table, opcodes 0x00 to 0x0F (R132). -/
def secondRow0 : List Instr :=
  [.rlc_B, .rlc_C, .rlc_D, .rlc_E, .rlc_H, .rlc_L, .rlc_mHL, .rlc_A, .rrc_B, .rrc_C, .rrc_D,
   .rrc_E, .rrc_H, .rrc_L, .rrc_mHL, .rrc_A]

/-- The second table, opcodes 0x10 to 0x1F (R132). -/
def secondRow1 : List Instr :=
  [.rl_B, .rl_C, .rl_D, .rl_E, .rl_H, .rl_L, .rl_mHL, .rl_A, .rr_B, .rr_C, .rr_D, .rr_E, .rr_H,
   .rr_L, .rr_mHL, .rr_A]

/-- The second table, opcodes 0x20 to 0x2F (R132). -/
def secondRow2 : List Instr :=
  [.sla_B, .sla_C, .sla_D, .sla_E, .sla_H, .sla_L, .sla_mHL, .sla_A, .sra_B, .sra_C, .sra_D,
   .sra_E, .sra_H, .sra_L, .sra_mHL, .sra_A]

/-- The second table, opcodes 0x30 to 0x3F (R132). -/
def secondRow3 : List Instr :=
  [.swap_B, .swap_C, .swap_D, .swap_E, .swap_H, .swap_L, .swap_mHL, .swap_A, .srl_B, .srl_C,
   .srl_D, .srl_E, .srl_H, .srl_L, .srl_mHL, .srl_A]

/-- The second table, opcodes 0x40 to 0x4F (R132). -/
def secondRow4 : List Instr :=
  [.bit_0_B, .bit_0_C, .bit_0_D, .bit_0_E, .bit_0_H, .bit_0_L, .bit_0_mHL, .bit_0_A, .bit_1_B,
   .bit_1_C, .bit_1_D, .bit_1_E, .bit_1_H, .bit_1_L, .bit_1_mHL, .bit_1_A]

/-- The second table, opcodes 0x50 to 0x5F (R132). -/
def secondRow5 : List Instr :=
  [.bit_2_B, .bit_2_C, .bit_2_D, .bit_2_E, .bit_2_H, .bit_2_L, .bit_2_mHL, .bit_2_A, .bit_3_B,
   .bit_3_C, .bit_3_D, .bit_3_E, .bit_3_H, .bit_3_L, .bit_3_mHL, .bit_3_A]

/-- The second table, opcodes 0x60 to 0x6F (R132). -/
def secondRow6 : List Instr :=
  [.bit_4_B, .bit_4_C, .bit_4_D, .bit_4_E, .bit_4_H, .bit_4_L, .bit_4_mHL, .bit_4_A, .bit_5_B,
   .bit_5_C, .bit_5_D, .bit_5_E, .bit_5_H, .bit_5_L, .bit_5_mHL, .bit_5_A]

/-- The second table, opcodes 0x70 to 0x7F (R132). -/
def secondRow7 : List Instr :=
  [.bit_6_B, .bit_6_C, .bit_6_D, .bit_6_E, .bit_6_H, .bit_6_L, .bit_6_mHL, .bit_6_A, .bit_7_B,
   .bit_7_C, .bit_7_D, .bit_7_E, .bit_7_H, .bit_7_L, .bit_7_mHL, .bit_7_A]

/-- The second table, opcodes 0x80 to 0x8F (R132). -/
def secondRow8 : List Instr :=
  [.res_0_B, .res_0_C, .res_0_D, .res_0_E, .res_0_H, .res_0_L, .res_0_mHL, .res_0_A, .res_1_B,
   .res_1_C, .res_1_D, .res_1_E, .res_1_H, .res_1_L, .res_1_mHL, .res_1_A]

/-- The second table, opcodes 0x90 to 0x9F (R132). -/
def secondRow9 : List Instr :=
  [.res_2_B, .res_2_C, .res_2_D, .res_2_E, .res_2_H, .res_2_L, .res_2_mHL, .res_2_A, .res_3_B,
   .res_3_C, .res_3_D, .res_3_E, .res_3_H, .res_3_L, .res_3_mHL, .res_3_A]

/-- The second table, opcodes 0xA0 to 0xAF (R132). -/
def secondRowA : List Instr :=
  [.res_4_B, .res_4_C, .res_4_D, .res_4_E, .res_4_H, .res_4_L, .res_4_mHL, .res_4_A, .res_5_B,
   .res_5_C, .res_5_D, .res_5_E, .res_5_H, .res_5_L, .res_5_mHL, .res_5_A]

/-- The second table, opcodes 0xB0 to 0xBF (R132). -/
def secondRowB : List Instr :=
  [.res_6_B, .res_6_C, .res_6_D, .res_6_E, .res_6_H, .res_6_L, .res_6_mHL, .res_6_A, .res_7_B,
   .res_7_C, .res_7_D, .res_7_E, .res_7_H, .res_7_L, .res_7_mHL, .res_7_A]

/-- The second table, opcodes 0xC0 to 0xCF (R132). -/
def secondRowC : List Instr :=
  [.set_0_B, .set_0_C, .set_0_D, .set_0_E, .set_0_H, .set_0_L, .set_0_mHL, .set_0_A, .set_1_B,
   .set_1_C, .set_1_D, .set_1_E, .set_1_H, .set_1_L, .set_1_mHL, .set_1_A]

/-- The second table, opcodes 0xD0 to 0xDF (R132). -/
def secondRowD : List Instr :=
  [.set_2_B, .set_2_C, .set_2_D, .set_2_E, .set_2_H, .set_2_L, .set_2_mHL, .set_2_A, .set_3_B,
   .set_3_C, .set_3_D, .set_3_E, .set_3_H, .set_3_L, .set_3_mHL, .set_3_A]

/-- The second table, opcodes 0xE0 to 0xEF (R132). -/
def secondRowE : List Instr :=
  [.set_4_B, .set_4_C, .set_4_D, .set_4_E, .set_4_H, .set_4_L, .set_4_mHL, .set_4_A, .set_5_B,
   .set_5_C, .set_5_D, .set_5_E, .set_5_H, .set_5_L, .set_5_mHL, .set_5_A]

/-- The second table, opcodes 0xF0 to 0xFF (R132). -/
def secondRowF : List Instr :=
  [.set_6_B, .set_6_C, .set_6_D, .set_6_E, .set_6_H, .set_6_L, .set_6_mHL, .set_6_A, .set_7_B,
   .set_7_C, .set_7_D, .set_7_E, .set_7_H, .set_7_L, .set_7_mHL, .set_7_A]

/-- The second table (R131, R132). -/
def secondTable : List Instr :=
  secondRow0 ++ secondRow1 ++ secondRow2 ++ secondRow3
    ++ secondRow4 ++ secondRow5 ++ secondRow6 ++ secondRow7
    ++ secondRow8 ++ secondRow9 ++ secondRowA ++ secondRowB
    ++ secondRowC ++ secondRowD ++ secondRowE ++ secondRowF

/-- The instruction of a first-table opcode with its following bytes (R122). -/
def decodeFirst (b0 b1 b2 : Byte) : Instr :=
  (firstTable b1 (Machine.join b2 b1)).getD b0.toNat (.undefined b0)

/-- The instruction of a second-table opcode (R131). -/
def decodeSecond (b1 : Byte) : Instr := secondTable.getD b1.toNat .prefix_CB

/-- The decoder: total, and a sequence that stops short is rejected by name (R135). A prefix byte with
nothing after it is the prefix itself (R300). -/
def decode (bytes : List Byte) : Decoded :=
  match bytes with
  | [] => .noBytes
  | b0 :: rest =>
    match formatOf b0, rest with
    | .op, rest => .instr (decodeFirst b0 0 0) rest
    | .illegal, rest => .instr (decodeFirst b0 0 0) rest
    | .opD8, b1 :: rest => .instr (decodeFirst b0 b1 0) rest
    | .opE8, b1 :: rest => .instr (decodeFirst b0 b1 0) rest
    | .opPad, b1 :: rest => .instr (decodeFirst b0 b1 0) rest
    | .opD16, b1 :: b2 :: rest => .instr (decodeFirst b0 b1 b2) rest
    | .pre, b1 :: rest => .instr (decodeSecond b1) rest
    | .pre, [] => .instr .prefix_CB []
    | .opD8, [] => .truncated b0
    | .opE8, [] => .truncated b0
    | .opPad, [] => .truncated b0
    | .opD16, [] => .truncated b0
    | .opD16, [_] => .truncated b0

/-- The encoder: the bytes of an instruction, lowest address first (R120, R122, R132). -/
def encode (i : Instr) : List Byte :=
  match i with
  | .nop => [0x00]
  | .ld_BC_nn nn => [0x01, Machine.lowByte nn, Machine.highByte nn]
  | .ld_mBC_A => [0x02]
  | .inc_BC => [0x03]
  | .inc_B => [0x04]
  | .dec_B => [0x05]
  | .ld_B_n n => [0x06, n]
  | .rlca => [0x07]
  | .ld_mnn_SP nn => [0x08, Machine.lowByte nn, Machine.highByte nn]
  | .add_HL_BC => [0x09]
  | .ld_A_mBC => [0x0A]
  | .dec_BC => [0x0B]
  | .inc_C => [0x0C]
  | .dec_C => [0x0D]
  | .ld_C_n n => [0x0E, n]
  | .rrca => [0x0F]
  | .stop => [0x10, 0x00]
  | .ld_DE_nn nn => [0x11, Machine.lowByte nn, Machine.highByte nn]
  | .ld_mDE_A => [0x12]
  | .inc_DE => [0x13]
  | .inc_D => [0x14]
  | .dec_D => [0x15]
  | .ld_D_n n => [0x16, n]
  | .rla => [0x17]
  | .jr_e e => [0x18, e]
  | .add_HL_DE => [0x19]
  | .ld_A_mDE => [0x1A]
  | .dec_DE => [0x1B]
  | .inc_E => [0x1C]
  | .dec_E => [0x1D]
  | .ld_E_n n => [0x1E, n]
  | .rra => [0x1F]
  | .jr_NZ_e e => [0x20, e]
  | .ld_HL_nn nn => [0x21, Machine.lowByte nn, Machine.highByte nn]
  | .ld_mHLi_A => [0x22]
  | .inc_HL => [0x23]
  | .inc_H => [0x24]
  | .dec_H => [0x25]
  | .ld_H_n n => [0x26, n]
  | .daa => [0x27]
  | .jr_Z_e e => [0x28, e]
  | .add_HL_HL => [0x29]
  | .ld_A_mHLi => [0x2A]
  | .dec_HL => [0x2B]
  | .inc_L => [0x2C]
  | .dec_L => [0x2D]
  | .ld_L_n n => [0x2E, n]
  | .cpl => [0x2F]
  | .jr_NC_e e => [0x30, e]
  | .ld_SP_nn nn => [0x31, Machine.lowByte nn, Machine.highByte nn]
  | .ld_mHLd_A => [0x32]
  | .inc_SP => [0x33]
  | .inc_mHL => [0x34]
  | .dec_mHL => [0x35]
  | .ld_mHL_n n => [0x36, n]
  | .scf => [0x37]
  | .jr_C_e e => [0x38, e]
  | .add_HL_SP => [0x39]
  | .ld_A_mHLd => [0x3A]
  | .dec_SP => [0x3B]
  | .inc_A => [0x3C]
  | .dec_A => [0x3D]
  | .ld_A_n n => [0x3E, n]
  | .ccf => [0x3F]
  | .ld_B_B => [0x40]
  | .ld_B_C => [0x41]
  | .ld_B_D => [0x42]
  | .ld_B_E => [0x43]
  | .ld_B_H => [0x44]
  | .ld_B_L => [0x45]
  | .ld_B_mHL => [0x46]
  | .ld_B_A => [0x47]
  | .ld_C_B => [0x48]
  | .ld_C_C => [0x49]
  | .ld_C_D => [0x4A]
  | .ld_C_E => [0x4B]
  | .ld_C_H => [0x4C]
  | .ld_C_L => [0x4D]
  | .ld_C_mHL => [0x4E]
  | .ld_C_A => [0x4F]
  | .ld_D_B => [0x50]
  | .ld_D_C => [0x51]
  | .ld_D_D => [0x52]
  | .ld_D_E => [0x53]
  | .ld_D_H => [0x54]
  | .ld_D_L => [0x55]
  | .ld_D_mHL => [0x56]
  | .ld_D_A => [0x57]
  | .ld_E_B => [0x58]
  | .ld_E_C => [0x59]
  | .ld_E_D => [0x5A]
  | .ld_E_E => [0x5B]
  | .ld_E_H => [0x5C]
  | .ld_E_L => [0x5D]
  | .ld_E_mHL => [0x5E]
  | .ld_E_A => [0x5F]
  | .ld_H_B => [0x60]
  | .ld_H_C => [0x61]
  | .ld_H_D => [0x62]
  | .ld_H_E => [0x63]
  | .ld_H_H => [0x64]
  | .ld_H_L => [0x65]
  | .ld_H_mHL => [0x66]
  | .ld_H_A => [0x67]
  | .ld_L_B => [0x68]
  | .ld_L_C => [0x69]
  | .ld_L_D => [0x6A]
  | .ld_L_E => [0x6B]
  | .ld_L_H => [0x6C]
  | .ld_L_L => [0x6D]
  | .ld_L_mHL => [0x6E]
  | .ld_L_A => [0x6F]
  | .ld_mHL_B => [0x70]
  | .ld_mHL_C => [0x71]
  | .ld_mHL_D => [0x72]
  | .ld_mHL_E => [0x73]
  | .ld_mHL_H => [0x74]
  | .ld_mHL_L => [0x75]
  | .halt => [0x76]
  | .ld_mHL_A => [0x77]
  | .ld_A_B => [0x78]
  | .ld_A_C => [0x79]
  | .ld_A_D => [0x7A]
  | .ld_A_E => [0x7B]
  | .ld_A_H => [0x7C]
  | .ld_A_L => [0x7D]
  | .ld_A_mHL => [0x7E]
  | .ld_A_A => [0x7F]
  | .add_A_B => [0x80]
  | .add_A_C => [0x81]
  | .add_A_D => [0x82]
  | .add_A_E => [0x83]
  | .add_A_H => [0x84]
  | .add_A_L => [0x85]
  | .add_A_mHL => [0x86]
  | .add_A_A => [0x87]
  | .adc_A_B => [0x88]
  | .adc_A_C => [0x89]
  | .adc_A_D => [0x8A]
  | .adc_A_E => [0x8B]
  | .adc_A_H => [0x8C]
  | .adc_A_L => [0x8D]
  | .adc_A_mHL => [0x8E]
  | .adc_A_A => [0x8F]
  | .sub_B => [0x90]
  | .sub_C => [0x91]
  | .sub_D => [0x92]
  | .sub_E => [0x93]
  | .sub_H => [0x94]
  | .sub_L => [0x95]
  | .sub_mHL => [0x96]
  | .sub_A => [0x97]
  | .sbc_A_B => [0x98]
  | .sbc_A_C => [0x99]
  | .sbc_A_D => [0x9A]
  | .sbc_A_E => [0x9B]
  | .sbc_A_H => [0x9C]
  | .sbc_A_L => [0x9D]
  | .sbc_A_mHL => [0x9E]
  | .sbc_A_A => [0x9F]
  | .and_B => [0xA0]
  | .and_C => [0xA1]
  | .and_D => [0xA2]
  | .and_E => [0xA3]
  | .and_H => [0xA4]
  | .and_L => [0xA5]
  | .and_mHL => [0xA6]
  | .and_A => [0xA7]
  | .xor_B => [0xA8]
  | .xor_C => [0xA9]
  | .xor_D => [0xAA]
  | .xor_E => [0xAB]
  | .xor_H => [0xAC]
  | .xor_L => [0xAD]
  | .xor_mHL => [0xAE]
  | .xor_A => [0xAF]
  | .or_B => [0xB0]
  | .or_C => [0xB1]
  | .or_D => [0xB2]
  | .or_E => [0xB3]
  | .or_H => [0xB4]
  | .or_L => [0xB5]
  | .or_mHL => [0xB6]
  | .or_A => [0xB7]
  | .cp_B => [0xB8]
  | .cp_C => [0xB9]
  | .cp_D => [0xBA]
  | .cp_E => [0xBB]
  | .cp_H => [0xBC]
  | .cp_L => [0xBD]
  | .cp_mHL => [0xBE]
  | .cp_A => [0xBF]
  | .ret_NZ => [0xC0]
  | .pop_BC => [0xC1]
  | .jp_NZ_nn nn => [0xC2, Machine.lowByte nn, Machine.highByte nn]
  | .jp_nn nn => [0xC3, Machine.lowByte nn, Machine.highByte nn]
  | .call_NZ_nn nn => [0xC4, Machine.lowByte nn, Machine.highByte nn]
  | .push_BC => [0xC5]
  | .add_A_n n => [0xC6, n]
  | .rst_00 => [0xC7]
  | .ret_Z => [0xC8]
  | .ret => [0xC9]
  | .jp_Z_nn nn => [0xCA, Machine.lowByte nn, Machine.highByte nn]
  | .prefix_CB => [0xCB]
  | .call_Z_nn nn => [0xCC, Machine.lowByte nn, Machine.highByte nn]
  | .call_nn nn => [0xCD, Machine.lowByte nn, Machine.highByte nn]
  | .adc_A_n n => [0xCE, n]
  | .rst_08 => [0xCF]
  | .ret_NC => [0xD0]
  | .pop_DE => [0xD1]
  | .jp_NC_nn nn => [0xD2, Machine.lowByte nn, Machine.highByte nn]
  | .undefined op => [op]
  | .call_NC_nn nn => [0xD4, Machine.lowByte nn, Machine.highByte nn]
  | .push_DE => [0xD5]
  | .sub_n n => [0xD6, n]
  | .rst_10 => [0xD7]
  | .ret_C => [0xD8]
  | .reti => [0xD9]
  | .jp_C_nn nn => [0xDA, Machine.lowByte nn, Machine.highByte nn]
  | .call_C_nn nn => [0xDC, Machine.lowByte nn, Machine.highByte nn]
  | .sbc_A_n n => [0xDE, n]
  | .rst_18 => [0xDF]
  | .ldh_mn_A n => [0xE0, n]
  | .pop_HL => [0xE1]
  | .ldh_mC_A => [0xE2]
  | .push_HL => [0xE5]
  | .and_n n => [0xE6, n]
  | .rst_20 => [0xE7]
  | .add_SP_e e => [0xE8, e]
  | .jp_HL => [0xE9]
  | .ld_mnn_A nn => [0xEA, Machine.lowByte nn, Machine.highByte nn]
  | .xor_n n => [0xEE, n]
  | .rst_28 => [0xEF]
  | .ldh_A_mn n => [0xF0, n]
  | .pop_AF => [0xF1]
  | .ldh_A_mC => [0xF2]
  | .di => [0xF3]
  | .push_AF => [0xF5]
  | .or_n n => [0xF6, n]
  | .rst_30 => [0xF7]
  | .ld_HL_SPe e => [0xF8, e]
  | .ld_SP_HL => [0xF9]
  | .ld_A_mnn nn => [0xFA, Machine.lowByte nn, Machine.highByte nn]
  | .ei => [0xFB]
  | .cp_n n => [0xFE, n]
  | .rst_38 => [0xFF]
  | .rlc_B => [0xCB, 0x00]
  | .rlc_C => [0xCB, 0x01]
  | .rlc_D => [0xCB, 0x02]
  | .rlc_E => [0xCB, 0x03]
  | .rlc_H => [0xCB, 0x04]
  | .rlc_L => [0xCB, 0x05]
  | .rlc_mHL => [0xCB, 0x06]
  | .rlc_A => [0xCB, 0x07]
  | .rrc_B => [0xCB, 0x08]
  | .rrc_C => [0xCB, 0x09]
  | .rrc_D => [0xCB, 0x0A]
  | .rrc_E => [0xCB, 0x0B]
  | .rrc_H => [0xCB, 0x0C]
  | .rrc_L => [0xCB, 0x0D]
  | .rrc_mHL => [0xCB, 0x0E]
  | .rrc_A => [0xCB, 0x0F]
  | .rl_B => [0xCB, 0x10]
  | .rl_C => [0xCB, 0x11]
  | .rl_D => [0xCB, 0x12]
  | .rl_E => [0xCB, 0x13]
  | .rl_H => [0xCB, 0x14]
  | .rl_L => [0xCB, 0x15]
  | .rl_mHL => [0xCB, 0x16]
  | .rl_A => [0xCB, 0x17]
  | .rr_B => [0xCB, 0x18]
  | .rr_C => [0xCB, 0x19]
  | .rr_D => [0xCB, 0x1A]
  | .rr_E => [0xCB, 0x1B]
  | .rr_H => [0xCB, 0x1C]
  | .rr_L => [0xCB, 0x1D]
  | .rr_mHL => [0xCB, 0x1E]
  | .rr_A => [0xCB, 0x1F]
  | .sla_B => [0xCB, 0x20]
  | .sla_C => [0xCB, 0x21]
  | .sla_D => [0xCB, 0x22]
  | .sla_E => [0xCB, 0x23]
  | .sla_H => [0xCB, 0x24]
  | .sla_L => [0xCB, 0x25]
  | .sla_mHL => [0xCB, 0x26]
  | .sla_A => [0xCB, 0x27]
  | .sra_B => [0xCB, 0x28]
  | .sra_C => [0xCB, 0x29]
  | .sra_D => [0xCB, 0x2A]
  | .sra_E => [0xCB, 0x2B]
  | .sra_H => [0xCB, 0x2C]
  | .sra_L => [0xCB, 0x2D]
  | .sra_mHL => [0xCB, 0x2E]
  | .sra_A => [0xCB, 0x2F]
  | .swap_B => [0xCB, 0x30]
  | .swap_C => [0xCB, 0x31]
  | .swap_D => [0xCB, 0x32]
  | .swap_E => [0xCB, 0x33]
  | .swap_H => [0xCB, 0x34]
  | .swap_L => [0xCB, 0x35]
  | .swap_mHL => [0xCB, 0x36]
  | .swap_A => [0xCB, 0x37]
  | .srl_B => [0xCB, 0x38]
  | .srl_C => [0xCB, 0x39]
  | .srl_D => [0xCB, 0x3A]
  | .srl_E => [0xCB, 0x3B]
  | .srl_H => [0xCB, 0x3C]
  | .srl_L => [0xCB, 0x3D]
  | .srl_mHL => [0xCB, 0x3E]
  | .srl_A => [0xCB, 0x3F]
  | .bit_0_B => [0xCB, 0x40]
  | .bit_0_C => [0xCB, 0x41]
  | .bit_0_D => [0xCB, 0x42]
  | .bit_0_E => [0xCB, 0x43]
  | .bit_0_H => [0xCB, 0x44]
  | .bit_0_L => [0xCB, 0x45]
  | .bit_0_mHL => [0xCB, 0x46]
  | .bit_0_A => [0xCB, 0x47]
  | .bit_1_B => [0xCB, 0x48]
  | .bit_1_C => [0xCB, 0x49]
  | .bit_1_D => [0xCB, 0x4A]
  | .bit_1_E => [0xCB, 0x4B]
  | .bit_1_H => [0xCB, 0x4C]
  | .bit_1_L => [0xCB, 0x4D]
  | .bit_1_mHL => [0xCB, 0x4E]
  | .bit_1_A => [0xCB, 0x4F]
  | .bit_2_B => [0xCB, 0x50]
  | .bit_2_C => [0xCB, 0x51]
  | .bit_2_D => [0xCB, 0x52]
  | .bit_2_E => [0xCB, 0x53]
  | .bit_2_H => [0xCB, 0x54]
  | .bit_2_L => [0xCB, 0x55]
  | .bit_2_mHL => [0xCB, 0x56]
  | .bit_2_A => [0xCB, 0x57]
  | .bit_3_B => [0xCB, 0x58]
  | .bit_3_C => [0xCB, 0x59]
  | .bit_3_D => [0xCB, 0x5A]
  | .bit_3_E => [0xCB, 0x5B]
  | .bit_3_H => [0xCB, 0x5C]
  | .bit_3_L => [0xCB, 0x5D]
  | .bit_3_mHL => [0xCB, 0x5E]
  | .bit_3_A => [0xCB, 0x5F]
  | .bit_4_B => [0xCB, 0x60]
  | .bit_4_C => [0xCB, 0x61]
  | .bit_4_D => [0xCB, 0x62]
  | .bit_4_E => [0xCB, 0x63]
  | .bit_4_H => [0xCB, 0x64]
  | .bit_4_L => [0xCB, 0x65]
  | .bit_4_mHL => [0xCB, 0x66]
  | .bit_4_A => [0xCB, 0x67]
  | .bit_5_B => [0xCB, 0x68]
  | .bit_5_C => [0xCB, 0x69]
  | .bit_5_D => [0xCB, 0x6A]
  | .bit_5_E => [0xCB, 0x6B]
  | .bit_5_H => [0xCB, 0x6C]
  | .bit_5_L => [0xCB, 0x6D]
  | .bit_5_mHL => [0xCB, 0x6E]
  | .bit_5_A => [0xCB, 0x6F]
  | .bit_6_B => [0xCB, 0x70]
  | .bit_6_C => [0xCB, 0x71]
  | .bit_6_D => [0xCB, 0x72]
  | .bit_6_E => [0xCB, 0x73]
  | .bit_6_H => [0xCB, 0x74]
  | .bit_6_L => [0xCB, 0x75]
  | .bit_6_mHL => [0xCB, 0x76]
  | .bit_6_A => [0xCB, 0x77]
  | .bit_7_B => [0xCB, 0x78]
  | .bit_7_C => [0xCB, 0x79]
  | .bit_7_D => [0xCB, 0x7A]
  | .bit_7_E => [0xCB, 0x7B]
  | .bit_7_H => [0xCB, 0x7C]
  | .bit_7_L => [0xCB, 0x7D]
  | .bit_7_mHL => [0xCB, 0x7E]
  | .bit_7_A => [0xCB, 0x7F]
  | .res_0_B => [0xCB, 0x80]
  | .res_0_C => [0xCB, 0x81]
  | .res_0_D => [0xCB, 0x82]
  | .res_0_E => [0xCB, 0x83]
  | .res_0_H => [0xCB, 0x84]
  | .res_0_L => [0xCB, 0x85]
  | .res_0_mHL => [0xCB, 0x86]
  | .res_0_A => [0xCB, 0x87]
  | .res_1_B => [0xCB, 0x88]
  | .res_1_C => [0xCB, 0x89]
  | .res_1_D => [0xCB, 0x8A]
  | .res_1_E => [0xCB, 0x8B]
  | .res_1_H => [0xCB, 0x8C]
  | .res_1_L => [0xCB, 0x8D]
  | .res_1_mHL => [0xCB, 0x8E]
  | .res_1_A => [0xCB, 0x8F]
  | .res_2_B => [0xCB, 0x90]
  | .res_2_C => [0xCB, 0x91]
  | .res_2_D => [0xCB, 0x92]
  | .res_2_E => [0xCB, 0x93]
  | .res_2_H => [0xCB, 0x94]
  | .res_2_L => [0xCB, 0x95]
  | .res_2_mHL => [0xCB, 0x96]
  | .res_2_A => [0xCB, 0x97]
  | .res_3_B => [0xCB, 0x98]
  | .res_3_C => [0xCB, 0x99]
  | .res_3_D => [0xCB, 0x9A]
  | .res_3_E => [0xCB, 0x9B]
  | .res_3_H => [0xCB, 0x9C]
  | .res_3_L => [0xCB, 0x9D]
  | .res_3_mHL => [0xCB, 0x9E]
  | .res_3_A => [0xCB, 0x9F]
  | .res_4_B => [0xCB, 0xA0]
  | .res_4_C => [0xCB, 0xA1]
  | .res_4_D => [0xCB, 0xA2]
  | .res_4_E => [0xCB, 0xA3]
  | .res_4_H => [0xCB, 0xA4]
  | .res_4_L => [0xCB, 0xA5]
  | .res_4_mHL => [0xCB, 0xA6]
  | .res_4_A => [0xCB, 0xA7]
  | .res_5_B => [0xCB, 0xA8]
  | .res_5_C => [0xCB, 0xA9]
  | .res_5_D => [0xCB, 0xAA]
  | .res_5_E => [0xCB, 0xAB]
  | .res_5_H => [0xCB, 0xAC]
  | .res_5_L => [0xCB, 0xAD]
  | .res_5_mHL => [0xCB, 0xAE]
  | .res_5_A => [0xCB, 0xAF]
  | .res_6_B => [0xCB, 0xB0]
  | .res_6_C => [0xCB, 0xB1]
  | .res_6_D => [0xCB, 0xB2]
  | .res_6_E => [0xCB, 0xB3]
  | .res_6_H => [0xCB, 0xB4]
  | .res_6_L => [0xCB, 0xB5]
  | .res_6_mHL => [0xCB, 0xB6]
  | .res_6_A => [0xCB, 0xB7]
  | .res_7_B => [0xCB, 0xB8]
  | .res_7_C => [0xCB, 0xB9]
  | .res_7_D => [0xCB, 0xBA]
  | .res_7_E => [0xCB, 0xBB]
  | .res_7_H => [0xCB, 0xBC]
  | .res_7_L => [0xCB, 0xBD]
  | .res_7_mHL => [0xCB, 0xBE]
  | .res_7_A => [0xCB, 0xBF]
  | .set_0_B => [0xCB, 0xC0]
  | .set_0_C => [0xCB, 0xC1]
  | .set_0_D => [0xCB, 0xC2]
  | .set_0_E => [0xCB, 0xC3]
  | .set_0_H => [0xCB, 0xC4]
  | .set_0_L => [0xCB, 0xC5]
  | .set_0_mHL => [0xCB, 0xC6]
  | .set_0_A => [0xCB, 0xC7]
  | .set_1_B => [0xCB, 0xC8]
  | .set_1_C => [0xCB, 0xC9]
  | .set_1_D => [0xCB, 0xCA]
  | .set_1_E => [0xCB, 0xCB]
  | .set_1_H => [0xCB, 0xCC]
  | .set_1_L => [0xCB, 0xCD]
  | .set_1_mHL => [0xCB, 0xCE]
  | .set_1_A => [0xCB, 0xCF]
  | .set_2_B => [0xCB, 0xD0]
  | .set_2_C => [0xCB, 0xD1]
  | .set_2_D => [0xCB, 0xD2]
  | .set_2_E => [0xCB, 0xD3]
  | .set_2_H => [0xCB, 0xD4]
  | .set_2_L => [0xCB, 0xD5]
  | .set_2_mHL => [0xCB, 0xD6]
  | .set_2_A => [0xCB, 0xD7]
  | .set_3_B => [0xCB, 0xD8]
  | .set_3_C => [0xCB, 0xD9]
  | .set_3_D => [0xCB, 0xDA]
  | .set_3_E => [0xCB, 0xDB]
  | .set_3_H => [0xCB, 0xDC]
  | .set_3_L => [0xCB, 0xDD]
  | .set_3_mHL => [0xCB, 0xDE]
  | .set_3_A => [0xCB, 0xDF]
  | .set_4_B => [0xCB, 0xE0]
  | .set_4_C => [0xCB, 0xE1]
  | .set_4_D => [0xCB, 0xE2]
  | .set_4_E => [0xCB, 0xE3]
  | .set_4_H => [0xCB, 0xE4]
  | .set_4_L => [0xCB, 0xE5]
  | .set_4_mHL => [0xCB, 0xE6]
  | .set_4_A => [0xCB, 0xE7]
  | .set_5_B => [0xCB, 0xE8]
  | .set_5_C => [0xCB, 0xE9]
  | .set_5_D => [0xCB, 0xEA]
  | .set_5_E => [0xCB, 0xEB]
  | .set_5_H => [0xCB, 0xEC]
  | .set_5_L => [0xCB, 0xED]
  | .set_5_mHL => [0xCB, 0xEE]
  | .set_5_A => [0xCB, 0xEF]
  | .set_6_B => [0xCB, 0xF0]
  | .set_6_C => [0xCB, 0xF1]
  | .set_6_D => [0xCB, 0xF2]
  | .set_6_E => [0xCB, 0xF3]
  | .set_6_H => [0xCB, 0xF4]
  | .set_6_L => [0xCB, 0xF5]
  | .set_6_mHL => [0xCB, 0xF6]
  | .set_6_A => [0xCB, 0xF7]
  | .set_7_B => [0xCB, 0xF8]
  | .set_7_C => [0xCB, 0xF9]
  | .set_7_D => [0xCB, 0xFA]
  | .set_7_E => [0xCB, 0xFB]
  | .set_7_H => [0xCB, 0xFC]
  | .set_7_L => [0xCB, 0xFD]
  | .set_7_mHL => [0xCB, 0xFE]
  | .set_7_A => [0xCB, 0xFF]

/-- The bytes of a table word of `nbits` bits, lowest address first. The opcode table writes a second-table
row as `byte0 : byte1`, prefix in the high byte (R136); any other word has its first byte in its low bits.
A prefix byte alone has nothing after it; after any other byte the missing bytes are 0. -/
def tableBytes (nbits w : Nat) : List Byte :=
  if 16 ≤ nbits ∧ w / 256 % 256 = 0xCB then [0xCB, BitVec.ofNat 8 w]
  else if nbits ≤ 8 ∧ w % 256 = 0xCB then [0xCB]
  else [BitVec.ofNat 8 w, BitVec.ofNat 8 (w / 256), BitVec.ofNat 8 (w / 65536)]

/-- The instruction the decoder reads from a table word. -/
def decodeTableWord (nbits w : Nat) : Option Instr :=
  match decode (tableBytes nbits w) with
  | .instr i _ => some i
  | .noBytes => none
  | .truncated _ => none

end Sys2Proof
end

