-- ==== Sys2Proof/Machine/Fetch.lean ====
section
/-! DEFINITION. Fetching a whole instruction, finishing one that a run of machine cycles left in progress, and
placing a program byte from outside (40_execution_engine.md R144, R150, R153; 30_encoding.md R122, R135;
70_reset_and_hazards.md R476). -/

namespace Sys2Proof.Machine

/-- After the opcode fetch: the remaining bytes, one machine cycle each, and the instruction they decode to.
The state is the one in the cycle of the last fetch (R122, R135, R139). -/
def fetchRest (s : State) : State × Instr :=
  match formatOf s.cpu.ir with
  | .op => (s, decodeFirst s.cpu.ir 0 0)
  | .opPad => (s, decodeFirst s.cpu.ir 0 0)
  | .illegal => (s, decodeFirst s.cpu.ir 0 0)
  | .opD8 =>
    let t := fetchTemp8 (nextCycle s)
    (t, decodeFirst s.cpu.ir t.cpu.tmp8 0)
  | .opE8 =>
    let t := fetchTemp8 (nextCycle s)
    (t, decodeFirst s.cpu.ir t.cpu.tmp8 0)
  | .opD16 =>
    let t := fetchTempHigh (nextCycle (fetchTempLow (nextCycle s)))
    (t, decodeFirst s.cpu.ir (lowByte t.cpu.tmp16) (highByte t.cpu.tmp16))
  | .pre =>
    let t := fetchPrefixed (nextCycle s)
    (t, decodeSecond t.cpu.ir)

/-- The whole fetch of an instruction at a boundary that accepted no interrupt (R144, R145). -/
def fetchInstr (s : State) : State × Instr := fetchRest (fetchOpcode (movePending s))

/-- A next state with the rest of its machine cycle run (R140). -/
def finishTick (r : Answer) : Answer :=
  match r with
  | .next s => .next (endTick s)
  | .fault e => .fault e
  | .refused e => .refused e

/-- The remaining cycles of an instruction in progress (R150, R159). -/
def finishSeq (s : State) : State :=
  match useqForm s.cpu.useq with
  | .prefixCb =>
    let t := fetchPrefixed (s.withCpu { s.cpu with cpuState := .fetchingOpcode, upos := 0 })
    runSeq (formSeq (formOf true t.cpu.ir)) t
  | f =>
    let t := runSeq ((formPrimitives f).drop s.cpu.upos) s
    t.withCpu { t.cpu with cpuState := .fetchingOpcode, upos := 0 }

/-- The remaining cycles of an interrupt entry in progress (R153). -/
def finishEntry (s : State) : State :=
  let t := runSeq ((irqSeq s.cfg.irqEntryCycles).drop s.cpu.upos) s
  t.withCpu { t.cpu with cpuState := .fetchingOpcode, upos := 0 }

/-- The bytes of a table word, up to the longest instruction, the missing ones 0. -/
def programBytes (nbits w : Nat) : List Byte := (tableBytes nbits w ++ [0, 0, 0]).take 3

/-- Whether the three bytes from an address on are plain storage. -/
def isProgramPlace (s : State) (a : Word) : Bool :=
  (handler s a).isStorage && (handler s (a + 1)).isStorage && (handler s (a + 2)).isStorage

/-- Place bytes from outside the machine at consecutive addresses. -/
def pokeAll : List Byte → Word → State → State
  | [], _, s => s
  | v :: rest, a, s => pokeAll rest (a + 1) (poke s a v)

/-- The processor ready to fetch at the next boundary: no fault, no HALT bug, nothing in progress. -/
def readyToFetch (s : State) : State :=
  s.withCpu { s.cpu with haltBug := false, cpuFault := false, cpuState := .fetchingOpcode, upos := 0 }

/-- The machine that will not take an interrupt at the next boundary. -/
def withoutInterrupt (s : State) : State :=
  if accepts (beginTick s) then s.withCpu { s.cpu with ime := false } else s

/-- The program counter at a place that can hold a program: where it is, or the start of work RAM. -/
def programPlace (s : State) : State :=
  if isProgramPlace s s.regs.pc then s else s.setPc 0xC000

/-- The launch of one instruction: its bytes stored where the next step fetches. -/
def launch (s : State) (bytes : List Byte) : State :=
  let t := programPlace (withoutInterrupt (readyToFetch s))
  pokeAll bytes t.regs.pc t

end Sys2Proof.Machine
end

