-- ==== Sys2Proof/Machine/Step.lean ====
section
/-! DEFINITION. One step of the machine: one instruction, one interrupt entry or one idle machine cycle, with
every machine cycle of the whole core it takes (40_execution_engine.md R140 to R159). -/

namespace Sys2Proof.Machine

/-- An instruction boundary: an interrupt is taken, or the next instruction runs (R145). -/
def runBoundary (s : State) : Answer :=
  if accepts s then .next (endTick (takeInterrupt s))
  else finishTick (exec (fetchInstr s).2 (fetchInstr s).1)

/-- What the processor does from the machine cycle in which it steps next (R159). -/
def runCpu (s : State) : Answer :=
  if idles s then .next (endTick s)
  else
    match s.cpu.cpuState with
    | .executingPrimitiveSequence => .next (endTick (finishSeq s))
    | .servicingInterrupt => .next (endTick (finishEntry s))
    | .fetchingOpcode => runBoundary (wake s)
    | .halted => runBoundary (wake s)
    | .stopped => runBoundary (wake s)

/-- The step relation. After an undefined opcode the machine is stopped for good (R311). -/
def step (s : State) : Host.Outcome State Fault Refusal :=
  if s.cpu.cpuFault then .fault (.unsupportedOpcode s.cpu.ir) else runCpu (beginTick s)

/-- The state with the instruction of a table word stored where `step` fetches next. -/
def State.withFetchWord (s : State) (nbits w : Nat) : State := launch s (programBytes nbits w)

end Sys2Proof.Machine
end

