-- ==== Sys2Proof/Safety.lean ====
section
/-! DEFINITION. What counts as a safe run, and the invariants of the machine, in the terms claims use. -/

namespace Sys2Proof.Machine

/-- `k` steps from `s` without a fault or a refusal: no undefined opcode was fetched in the first `k - 1`
of them (R311, R312). -/
def runsSafely : Nat → State → Prop
  | 0, _ => True
  | k + 1, s => ∃ t, step s = .next t ∧ runsSafely k t

/-- The machine after `k` machine cycles (R140). -/
def ticks : Nat → State → State
  | 0, s => s
  | k + 1, s => ticks k (tick s).1

/-- The flags byte's low nibble is 0 (R13). -/
def State.flagsWf (s : State) : Bool := s.regs.f &&& 0x0F == 0

/-- The pipeline's parameters make a frame: each mode lasts, the highest line has a dot 4 and an 8-bit number, and
re-entry is inside `search` (00_scope.md R5, R385, R394, R397). The defaults do. -/
def timingWf (cfg : Config) : Bool :=
  decide (cfg.ppuReentryOffset < cfg.ppuD1) && decide (0 < cfg.ppuD2)
    && decide (cfg.ppuD1 + cfg.ppuD2 < cfg.ppuLineDots) && decide (4 < cfg.ppuLineDots)
    && decide (0 < cfg.ppuVisibleLines) && decide (cfg.ppuVisibleLines < cfg.ppuTotalLines)
    && decide (cfg.ppuTotalLines ≤ 256)

/-- The position counters of the pixel pipeline are in their ranges (R25, R385, R387, R388). -/
def Ppu.inRange (cfg : Config) (p : Ppu) : Bool :=
  decide (p.dot < cfg.ppuLineDots) && decide (p.ly.toNat < cfg.ppuTotalLines)
    && decide (p.lx ≤ 160) && decide (p.lineSprites.length ≤ 10)

/-- A length counter that holds the full load has no other bit set (R28, log 16). -/
def Length.wf {w : Nat} (l : Length w) : Bool := !l.full || l.count == 0

/-- The length counters hold a number in one way (R422 to R424, R434). -/
def Apu.lengthsWf (p : Apu) : Bool :=
  p.ch1.length.wf && p.ch2.length.wf && p.ch3.length.wf && p.ch4.length.wf

/-- A channel is enabled only with its DAC on (R435). -/
def Apu.dacsWf (p : Apu) : Bool :=
  (!p.ch1.enabled || p.ch1.dac) && (!p.ch2.enabled || p.ch2.dac) && (!p.ch3.enabled || p.ch3.dac)
    && (!p.ch4.enabled || p.ch4.dac)

/-- What only the enhanced revision has stays at its rest on `DMG` (R20, R31, R348). -/
def State.dmgAtRest (s : State) : Bool :=
  s.cfg.rev == .cgb
    || (!s.cpu.doubleSpeed && !s.cpu.speedArmed && s.router.vramBank == 0 && s.router.wramBank == 1
        && !s.dma.hdmaActive && s.dma.hdmaBlockLeft == 0 && !s.dma.cpuStall)

/-- The bank registers that forbid 0 do not hold it (R97 to R101). -/
def Cart.banksWf (cfg : Config) (c : Cart) : Bool :=
  c.lo5 != 0 && c.mcInner != 0 && (cfg.family == .wide9 || c.romBank != 0)

end Sys2Proof.Machine
end

