-- ==== Sys2Proof/Views.lean ====
section
/-! DEFINITION. The terms that statements about instructions use, written from the spec beside the meanings:
the form of an instruction by its encoding, its immediates, the registers and flags it may write, its cycle
counts, and arithmetic in unbounded integers. No meaning uses this file. -/

namespace Sys2Proof

/-- The form of an instruction, by the fields of its opcode byte (30_encoding.md R127 to R131). -/
def Instr.form (i : Instr) : Form :=
  match i with
  | .undefined _ => .undefined
  | i =>
    match encode i with
    | [] => .undefined
    | [op] => Machine.formFirst op
    | op :: op2 :: _ => if op = 0xCB then Machine.formSecond op2 else Machine.formFirst op

/-- Byte 1 of the encoding: `n` or `e` (R122). -/
def Instr.imm8 (i : Instr) : Byte := (encode i).getD 1 0

/-- `byte2 : byte1` of the encoding: `nn` (R122). -/
def Instr.imm16 (i : Instr) : Word := Machine.join ((encode i).getD 2 0) ((encode i).getD 1 0)

/-- The bytes an instruction's fetch reads: all of it, but for the pad byte of `STOP` (R139). -/
def Instr.fetchedBytes (i : Instr) : Nat :=
  match i with
  | .stop => 1
  | i => (encode i).length

/-- The family of the opcode table a form belongs to, one per file of instruction rules. -/
inductive Family where
  | load8 | load16 | alu8 | alu16 | rotateBit | control | system
deriving DecidableEq, Repr

/-- The family of a form (41_load8.md to 47_system.md). -/
def Form.family (f : Form) : Family :=
  match f with
  | .nop | .halt | .stop | .di | .ei | .prefixCb | .undefined => .system
  | .ldRR _ _ | .ldRN _ | .ldRHl _ | .ldHlR _ | .ldHlN | .ldABc | .ldADe | .ldBcA | .ldDeA | .ldANn
  | .ldNnA | .ldhAC | .ldhCA | .ldhAN | .ldhNA | .ldAHld | .ldHldA | .ldAHli | .ldHliA => .load8
  | .ldRrNn _ | .ldNnSp | .ldSpHl | .push _ | .pop _ | .ldHlSpE => .load16
  | .aluR _ _ | .aluHl _ | .aluN _ | .incR _ | .incHl | .decR _ | .decHl | .daa | .cpl | .scf | .ccf =>
    .alu8
  | .addHlRr _ | .incRr _ | .decRr _ | .addSpE => .alu16
  | .rlca | .rrca | .rla | .rra | .rotR _ _ | .rotHl _ | .bitR _ _ | .bitHl _ | .resR _ _ | .resHl _
  | .setR _ _ | .setHl _ => .rotateBit
  | .jpNn | .jpCcNn _ | .jpHl | .jrE | .jrCcE _ | .callNn | .callCcNn _ | .ret | .retCc _ | .reti
  | .rst _ => .control

/-- The two registers of a pair; `SP` has none (10_state.md R12). -/
def RegPair.regs (p : RegPair) : List Reg8 :=
  match p with
  | .bc => [.b, .c]
  | .de => [.d, .e]
  | .hl => [.h, .l]
  | .sp => []

/-- The 8-bit registers of a stack pair, `F` apart (R12). -/
def StackPair.regs (p : StackPair) : List Reg8 :=
  match p with
  | .bc => [.b, .c]
  | .de => [.d, .e]
  | .hl => [.h, .l]
  | .af => [.a]

/-- The 8-bit registers that a form's rule says it writes, `F` apart. -/
def Form.writtenRegs (f : Form) : List Reg8 :=
  match f with
  | .ldRR r _ | .ldRN r | .ldRHl r | .incR r | .decR r | .rotR _ r | .resR _ r | .setR _ r => [r]
  | .ldABc | .ldADe | .ldANn | .ldhAC | .ldhAN | .daa | .cpl | .rlca | .rrca | .rla | .rra => [.a]
  | .ldAHld | .ldAHli => [.a, .h, .l]
  | .ldHldA | .ldHliA | .ldHlSpE | .addHlRr _ => [.h, .l]
  | .ldRrNn p | .incRr p | .decRr p => p.regs
  | .pop p => p.regs
  | .aluR o _ | .aluHl o | .aluN o => if o = .cp then [] else [.a]
  | .nop | .halt | .stop | .di | .ei | .prefixCb | .undefined | .ldHlR _ | .ldHlN | .ldBcA | .ldDeA
  | .ldNnA | .ldhCA | .ldhNA | .ldNnSp | .ldSpHl | .push _ | .incHl | .decHl | .scf | .ccf | .addSpE
  | .rotHl _ | .bitR _ _ | .bitHl _ | .resHl _ | .setHl _ | .jpNn | .jpCcNn _ | .jpHl | .jrE | .jrCcE _
  | .callNn | .callCcNn _ | .ret | .retCc _ | .reti | .rst _ => []

/-- Whether a form's rule says it writes `sp` (10_state.md R14). -/
def Form.writesSp (f : Form) : Bool :=
  match f with
  | .ldRrNn .sp | .incRr .sp | .decRr .sp | .ldSpHl | .addSpE | .push _ | .pop _ | .callNn | .callCcNn _
  | .ret | .retCc _ | .reti | .rst _ => true
  | _ => false

/-- The flags a form's rule says it writes, as bits of `F` (10_state.md R13, R200 to R272). -/
def Form.writtenFlags (f : Form) : Byte :=
  match f with
  | .aluR _ _ | .aluHl _ | .aluN _ | .addSpE | .ldHlSpE | .rlca | .rrca | .rla | .rra | .rotR _ _
  | .rotHl _ => 0xF0
  | .pop p => if p = .af then 0xF0 else 0
  | .incR _ | .incHl | .decR _ | .decHl | .bitR _ _ | .bitHl _ => 0xE0
  | .daa => 0xB0
  | .cpl => 0x60
  | .scf | .ccf | .addHlRr _ => 0x70
  | _ => 0

/-- Whether a form's rule says it makes a Router write, in a register file `x`: a call does when its condition
holds. -/
def Form.stores (f : Form) (x : Machine.Regs) : Bool :=
  match f with
  | .ldHlR _ | .ldHlN | .ldBcA | .ldDeA | .ldNnA | .ldhCA | .ldhNA | .ldHldA | .ldHliA | .ldNnSp | .push _
  | .incHl | .decHl | .rotHl _ | .resHl _ | .setHl _ | .callNn | .rst _ => true
  | .callCcNn cc => x.holds cc
  | _ => false

/-- The machine cycles of a form, by the table of 70_reset_and_hazards.md R470; a conditional form takes the
shorter count when its condition fails in `x` (40_execution_engine.md R148, R149). -/
def Form.cycles (f : Form) (x : Machine.Regs) : Nat :=
  match f with
  | .nop | .ldRR _ _ | .aluR _ _ | .incR _ | .decR _ | .rlca | .rrca | .rla | .rra | .daa | .cpl | .scf
  | .ccf | .di | .ei | .halt | .jpHl | .stop | .undefined => 1
  | .ldRN _ | .aluN _ | .ldRHl _ | .ldHlR _ | .aluHl _ | .ldABc | .ldADe | .ldBcA | .ldDeA | .ldAHli
  | .ldAHld | .ldHliA | .ldHldA | .ldhAC | .ldhCA | .incRr _ | .decRr _ | .addHlRr _ | .ldSpHl => 2
  | .incHl | .decHl | .ldHlN | .ldhAN | .ldhNA | .ldRrNn _ | .pop _ | .ldHlSpE | .jrE => 3
  | .ldANn | .ldNnA | .push _ | .addSpE | .jpNn | .ret | .reti | .rst _ => 4
  | .ldNnSp => 5
  | .callNn => 6
  | .jrCcE cc => if x.holds cc then 3 else 2
  | .jpCcNn cc => if x.holds cc then 4 else 3
  | .callCcNn cc => if x.holds cc then 6 else 3
  | .retCc cc => if x.holds cc then 5 else 2
  | .rotR _ _ | .bitR _ _ | .resR _ _ | .setR _ _ => 2
  | .bitHl _ => 3
  | .rotHl _ | .resHl _ | .setHl _ => 4
  | .prefixCb => 1

namespace Machine

/-- The state in the cycle of the last fetch: the immediates are in the temps (R147). -/
def operands (i : Instr) (s : State) : State :=
  match (formImmediates i.form).length with
  | 0 => s
  | 1 => s.withTmp8 i.imm8
  | _ => s.withTmp16 i.imm16

/-- The machine after `n` machine cycles in which the processor does nothing of its own. -/
def idleCycles : Nat → State → State
  | 0, s => s
  | n + 1, s => idleCycles n (nextCycle s)

/-- The machine with its register file and the dead temps (R18) put aside. -/
def State.outside (s : State) : State :=
  { s with regs := Regs.zero, cpu := { s.cpu with tmp8 := 0, tmp16 := 0 } }

/-- `t` is `s` with the register file `x`, the dead temps apart. -/
def sameButRegs (s t : State) (x : Regs) : Prop := t.regs = x ∧ t.outside = s.outside

/-- The number of machine cycles one step takes: an interrupt entry takes `IRQ_ENTRY_CYCLES` (R320), four at the
least (log 5), an instruction what the table says (R470). -/
def stepCycles (s : State) : Nat :=
  if accepts (beginTick s) then max 4 s.cfg.irqEntryCycles
  else (fetchInstr (beginTick s)).2.form.cycles s.regs

/-- Whether the byte behind an address cannot change by the passage of time: storage, the interrupt mask and
unmapped addresses; video RAM while no bulk copy runs. The I/O registers advance with their blocks. -/
def steady (s : State) (a : Word) : Bool :=
  match handler s a with
  | .vram _ => s.cfg.rev == .dmg || (!s.dma.hdmaActive && s.dma.hdmaBlockLeft == 0)
  | .io _ => false
  | _ => true

/-- Whether a handler is a region a store always reaches: work RAM, high RAM or external RAM. -/
def Handler.isRam (h : Handler) : Bool :=
  match h with
  | .wram _ => true
  | .hram _ => true
  | .extRam _ => true
  | _ => false

/-- The address a form stores its one byte to (41_load8.md, 43_alu8.md, 45_rotate_shift_bit.md). -/
def storeAddress (i : Instr) (s : State) : Option Word :=
  match i.form with
  | .ldHlR _ | .ldHlN | .ldHldA | .ldHliA | .incHl | .decHl | .rotHl _ | .resHl _ | .setHl _ =>
    some s.regs.hl
  | .ldBcA => some (s.regs.getPair .bc)
  | .ldDeA => some (s.regs.getPair .de)
  | .ldNnA => some i.imm16
  | .ldhCA => some (highPage s.regs.c)
  | .ldhNA => some (highPage i.imm8)
  | _ => none

/-- The address a load of one register reads (41_load8.md). -/
def loadAddress (i : Instr) (s : State) : Option Word :=
  match i.form with
  | .ldRHl _ | .ldAHld | .ldAHli => some s.regs.hl
  | .ldABc => some (s.regs.getPair .bc)
  | .ldADe => some (s.regs.getPair .de)
  | .ldANn => some i.imm16
  | .ldhAC => some (highPage s.regs.c)
  | .ldhAN => some (highPage i.imm8)
  | _ => none

/-- The register such a load writes. -/
def loadTarget (i : Instr) : Reg8 :=
  match i.form with
  | .ldRHl r => r
  | _ => .a

/-- The register file after the pointer update of the `(HL+)` and `(HL-)` forms (R185 to R188). -/
def movedPointer (i : Instr) (x : Regs) : Regs :=
  match i.form with
  | .ldAHli | .ldHliA => x.setPair .hl (x.hl + 1)
  | .ldAHld | .ldHldA => x.setPair .hl (x.hl - 1)
  | _ => x

/-- The byte a plain store writes (R173, R174, R177, R178, R180, R182, R184, R186, R188). -/
def storedByte (i : Instr) (s : State) : Option Byte :=
  match i.form with
  | .ldHlR r => some (s.regs.get r)
  | .ldHlN => some i.imm8
  | .ldBcA | .ldDeA | .ldNnA | .ldhCA | .ldhNA | .ldHldA | .ldHliA => some s.regs.a
  | _ => none

/-- The two addresses a form stores a 16-bit value to, the one of the first write first (R191, R193, R287,
R288, R292). -/
def storePair (i : Instr) (s : State) : Option (Word × Word) :=
  match i.form with
  | .ldNnSp => some (i.imm16, i.imm16 + 1)
  | .push _ | .callNn | .rst _ => some (s.regs.sp - 1, s.regs.sp - 2)
  | .callCcNn cc => if s.regs.holds cc then some (s.regs.sp - 1, s.regs.sp - 2) else none
  | _ => none

/-- Whether a store to a handler changes nothing but the cell behind it: not the controller, not an I/O
register. -/
def Handler.isPlain (h : Handler) : Bool :=
  match h with
  | .rom _ => false
  | .bootRom _ => false
  | .io _ => false
  | _ => true

/-- The two bytes below `sp` are two cells of RAM. -/
def stackInRam (s : State) : Prop :=
  (handler s (s.regs.sp - 1)).isRam = true ∧ (handler s (s.regs.sp - 2)).isRam = true
    ∧ handler s (s.regs.sp - 1) ≠ handler s (s.regs.sp - 2)

/-- A 16-bit value lies below the stack pointer `sp`, its high byte at the higher address (R14, R80). -/
def holdsBelow (t : State) (sp v : Word) : Prop :=
  memRead t (sp - 1) = highByte v ∧ memRead t (sp - 2) = lowByte v

/-- The target of a call or restart (R287, R288, R292). -/
def callTarget (i : Instr) (s : State) : Option Word :=
  match i.form with
  | .callNn => some i.imm16
  | .callCcNn cc => if s.regs.holds cc then some i.imm16 else none
  | .rst k => some (BitVec.ofNat 16 (8 * k.val))
  | _ => none

/-- The operand of an accumulator operation, and the machine when it is at hand (R202). -/
def aluOperand (i : Instr) (s : State) : Option (AluOp × Byte × State) :=
  match i.form with
  | .aluR o r => some (o, s.regs.get r, s)
  | .aluN o => some (o, i.imm8, s)
  | .aluHl o => some (o, memRead (nextCycle s) s.regs.hl, nextCycle s)
  | _ => none

/-- What a form's rule lets the register file do: `y` after it, `x` before (R13, R14, R15, R189, R235). -/
def keepsRegs (f : Form) (x y : Regs) : Prop :=
  (∀ r, r ∉ f.writtenRegs → y.get r = x.get r)
    ∧ (f.writesSp = false → y.sp = x.sp)
    ∧ y.f &&& ~~~f.writtenFlags = x.f &&& ~~~f.writtenFlags

/-- The four flags of a register file. -/
def Regs.flagsAre (x : Regs) (z n h c : Bool) : Prop :=
  x.flagZ = z ∧ x.flagN = n ∧ x.flagH = h ∧ x.flagC = c

/-- `Add8(a, b, cin)` in integers (43_alu8.md R200). -/
def isSum (a b : Byte) (cin : Bool) (r : Byte) (x : Regs) : Prop :=
  r.toNat = (a.toNat + b.toNat + boolNat cin) % 256
    ∧ x.flagsAre (decide ((a.toNat + b.toNat + boolNat cin) % 256 = 0)) false
        (decide (a.toNat % 16 + b.toNat % 16 + boolNat cin > 15))
        (decide (a.toNat + b.toNat + boolNat cin > 255))

/-- `Sub8(a, b, cin)` in integers (43_alu8.md R201). -/
def isDifference (a b : Byte) (cin : Bool) (r : Byte) (x : Regs) : Prop :=
  (r.toNat : Int) = ((a.toNat : Int) - b.toNat - boolNat cin) % 256
    ∧ x.flagsAre (decide (((a.toNat : Int) - b.toNat - boolNat cin) % 256 = 0)) true
        (decide ((a.toNat % 16 : Int) - b.toNat % 16 - boolNat cin < 0))
        (decide ((a.toNat : Int) - b.toNat - boolNat cin < 0))

/-- A logic result and its flags, bit by bit (43_alu8.md R215 to R223). -/
def isLogic (f : Bool → Bool → Bool) (h : Bool) (a b r : Byte) (x : Regs) : Prop :=
  (∀ k, k < 8 → bit r k = f (bit a k) (bit b k)) ∧ x.flagsAre (decide (r = 0)) false h false

/-- The accumulator after an accumulator operation on `a`, `v` and the carry, and the flags of `x`
(43_alu8.md R203 to R226). -/
def aluSpec (o : AluOp) (a v : Byte) (c : Bool) (x : Regs) : Prop :=
  match o with
  | .add => isSum a v false x.a x
  | .adc => isSum a v c x.a x
  | .sub => isDifference a v false x.a x
  | .sbc => isDifference a v c x.a x
  | .and => isLogic (fun p q => p && q) true a v x.a x
  | .xor => isLogic (fun p q => p ^^ q) false a v x.a x
  | .or => isLogic (fun p q => p || q) false a v x.a x
  | .cp => x.a = a ∧ ∃ r, isDifference a v false r x

/-- The one-bit operations, bit by bit (45_rotate_shift_bit.md R245): the result `w` and the carry out. -/
def rotSpec (o : RotOp) (v : Byte) (c : Bool) (w : Byte) (co : Bool) : Prop :=
  match o with
  | .rlc => (∀ k, k < 8 → bit w k = bit v ((k + 7) % 8)) ∧ co = bit v 7
  | .rrc => (∀ k, k < 8 → bit w k = bit v ((k + 1) % 8)) ∧ co = bit v 0
  | .rl => bit w 0 = c ∧ (∀ k, k < 7 → bit w (k + 1) = bit v k) ∧ co = bit v 7
  | .rr => bit w 7 = c ∧ (∀ k, k < 7 → bit w k = bit v (k + 1)) ∧ co = bit v 0
  | .sla => bit w 0 = false ∧ (∀ k, k < 7 → bit w (k + 1) = bit v k) ∧ co = bit v 7
  | .sra => bit w 7 = bit v 7 ∧ (∀ k, k < 7 → bit w k = bit v (k + 1)) ∧ co = bit v 0
  | .swap => (∀ k, k < 8 → bit w k = bit v ((k + 4) % 8)) ∧ co = false
  | .srl => bit w 7 = false ∧ (∀ k, k < 7 → bit w k = bit v (k + 1)) ∧ co = bit v 0

/-- The byte with two decimal digits (packed BCD) of a number below 100. -/
def bcd (n : Nat) : Byte := BitVec.ofNat 8 (n / 10 * 16 + n % 10)

/-- The flags of `INC` on a byte: `Z`, `N`, `H` by the byte, `C` as it was (R227). -/
def incFlags (v : Byte) (c : Bool) (x : Regs) : Prop :=
  x.flagsAre (decide (v.toNat = 255)) false (decide (v.toNat % 16 = 15)) c

/-- The flags of `DEC` on a byte (R229). -/
def decFlags (v : Byte) (c : Bool) (x : Regs) : Prop :=
  x.flagsAre (decide (v.toNat = 1)) true (decide (v.toNat % 16 = 0)) c

/-- Only `F` and the registers of the list may differ, and `F` has a low nibble of 0. -/
def onlyFlagsAnd (rs : List Reg8) (x y : Regs) : Prop :=
  (∀ r, r ∉ rs → y.get r = x.get r) ∧ y.sp = x.sp ∧ y.pc = x.pc ∧ y.f &&& 0x0F = 0

/-- The adjustment `adj` of `DAA` and its carry, in the words of 43_alu8.md R231. -/
def daaSpec (a : Byte) (n h c : Bool) (r : Byte) (co : Bool) : Prop :=
  let low : Nat := if h = true ∨ (n = false ∧ a.toNat % 16 > 9) then 0x06 else 0
  let high : Nat := if c = true ∨ (n = false ∧ a.toNat > 0x99) then 0x60 else 0
  (r.toNat : Int) = (if n then (a.toNat : Int) - (low + high) else (a.toNat : Int) + (low + high)) % 256
    ∧ co = (if n then c else (c || decide (a.toNat > 0x99)))

/-- The mode of the pipeline at a line and a dot (61_devices_ppu_apu.md R385, R386): on a visible line `search` for
`PPU_D1` dots, `transfer` for `PPU_D2` and `hblank` for the rest, then `vblank`. -/
def modeAt (cfg : Config) (ly dot : Nat) : PpuMode :=
  if cfg.ppuVisibleLines ≤ ly then .vblank
  else if dot < cfg.ppuD1 then .search
  else if dot < cfg.ppuD1 + cfg.ppuD2 then .transfer
  else .hblank

/-- The pipeline keeps its schedule: its counters are in range and its mode is the one of its position, which while
it is disabled is line 0, at the start or at the re-entry offset (10_state.md R25, R36, R385, R397). -/
def Ppu.scheduled (cfg : Config) (p : Ppu) : Prop :=
  p.inRange cfg = true ∧ p.mode = modeAt cfg p.ly.toNat p.dot
    ∧ (bit p.lcdc 7 = false → p.ly = 0 ∧ (p.dot = 0 ∨ p.dot = cfg.ppuReentryOffset))

/-- The five bytes of a clock block, in the order of 20_memory.md R99. -/
def Rtc.bytes (r : Rtc) : List Byte := [r.seconds, r.minutes, r.hours, r.dayLow, r.dayHigh]

end Machine

end Sys2Proof
end

