-- ==== Sys2Proof/Certificates/Slice0/Obligations.lean ====
section
/-! DEFINITION. The statements for the provers: one Prop each, from the numbered rules of spec/. In a statement
about `exec i s`, `s` is the machine in the cycle of the instruction's last fetch, with `pc` past its bytes, and
`nextCycle` is the passage to the processor's next machine cycle (log 6). -/

open Sys2Proof Sys2Proof.Machine

/-! ## Encoding -/

/-- Decoding undoes encoding, with every operand at every value; the lone prefix byte decodes to itself
(R120 to R132; log 9 for the prefix, log 10 for the pad byte). -/
def Obligations.DecodeOfEncode : Prop :=
  (∀ (i : Instr) (rest : List Byte), i.wellFormed = true → i ≠ .prefix_CB →
      decode (encode i ++ rest) = .instr i rest)
    ∧ decode (encode .prefix_CB) = .instr .prefix_CB []

/-- What decodes is well-formed and encodes to the bytes it was decoded from, but for the ignored pad byte of
`STOP` (R120, R133, R139; log 10). -/
def Obligations.EncodeOfDecode : Prop :=
  ∀ (bytes : List Byte) (i : Instr) (rest : List Byte), decode bytes = .instr i rest →
    i.wellFormed = true ∧ (i ≠ .stop → encode i ++ rest = bytes)
      ∧ (i = .stop → ∃ pad, bytes = 0x10 :: pad :: rest)

/-- The instruction that the decoder's tables name runs the primitive sequence that the fields x, y, z of the opcode
select, on its operand bytes; the prefix and the undefined bytes are those that the fields leave without one (R121,
R127 to R131, R133, R144). -/
def Obligations.TablesAgreeWithFields : Prop :=
  (∀ (op b1 b2 : Byte) (s : State), formFirst op ≠ .prefixCb → formFirst op ≠ .undefined →
      exec (decodeFirst op b1 b2) s = .next (runSeq (formSeq (formFirst op))
        (match (formImmediates (formFirst op)).length with
         | 0 => s
         | 1 => s.withTmp8 b1
         | _ => s.withTmp16 (join b2 b1))))
    ∧ (∀ (op : Byte) (s : State), exec (decodeSecond op) s = .next (runSeq (formSeq (formSecond op)) s))
    ∧ ∀ op b1 b2 : Byte,
        (formFirst op = .prefixCb ↔ decodeFirst op b1 b2 = .prefix_CB)
          ∧ (formFirst op = .undefined ↔ decodeFirst op b1 b2 = .undefined op)

/-- Exactly eleven first-table bytes select no instruction; fetching one raises `UnsupportedOpcode`, and every
other first-table byte and every second-table byte is a defined instruction (R133). What raising it leaves is R311;
that `exec` answers it as a next state is the model's choice, log 8. -/
def Obligations.UndefinedBytes : Prop :=
  (∀ op b1 b2 : Byte, decodeFirst op b1 b2 = .undefined op ↔
      op ∈ [0xD3, 0xDB, 0xDD, 0xE3, 0xE4, 0xEB, 0xEC, 0xED, 0xF4, 0xFC, 0xFD])
    ∧ (∀ op b1 b2 other : Byte, decodeFirst op b1 b2 = .undefined other → other = op)
    ∧ (∀ op other : Byte, decodeSecond op ≠ .undefined other)
    ∧ ∀ (op : Byte) (s : State),
        exec (.undefined op) s = .next (s.withCpu { s.cpu with cpuFault := true, ir := op })

/-- Words written out from the encodings of the spec decode to their instructions: LD B,C 01 000 001 (R170);
LD A,0x7F (R171); LD HL,0xC000 (R190); PUSH AF 11 110 101 (R193); SBC A,H 10 011 100 (R212); CP 0x3C (R226);
ADD HL,DE 00 011 001 (R240); RLCA (R246); SET 3,(HL) CB, 11 011 110 (R272); BIT 7,A CB, 01 111 111 (R267);
JP Z,0x4000 11 001 010 (R283); RST 0x28 11 101 111 (R292); HALT 01 110 110 (R296); STOP and pad (R297). -/
def Obligations.DecodesSpecWords : Prop :=
  decode [0b01000001] = .instr .ld_B_C []
    ∧ decode [0x3E, 0x7F] = .instr (.ld_A_n 0x7F) []
    ∧ decode [0x21, 0x00, 0xC0] = .instr (.ld_HL_nn 0xC000) []
    ∧ decode [0b11110101] = .instr .push_AF []
    ∧ decode [0b10011100] = .instr .sbc_A_H []
    ∧ decode [0xFE, 0x3C] = .instr (.cp_n 0x3C) []
    ∧ decode [0b00011001] = .instr .add_HL_DE []
    ∧ decode [0x07] = .instr .rlca []
    ∧ decode [0xCB, 0b11011110] = .instr .set_3_mHL []
    ∧ decode [0xCB, 0b01111111] = .instr .bit_7_A []
    ∧ decode [0b11001010, 0x00, 0x40] = .instr (.jp_Z_nn 0x4000) []
    ∧ decode [0b11101111] = .instr .rst_28 []
    ∧ decode [0b01110110] = .instr .halt []
    ∧ decode [0x10, 0x99] = .instr .stop []

/-! ## The step -/

/-- At a boundary that accepts no interrupt, a step is the meaning of the fetched instruction in the cycle of its
last fetch, and the rest of that tick (R144, R145; what one step is, is the model's choice, log 6). -/
def Obligations.StepRunsDecodedInstruction : Prop :=
  ∀ s : State, s.cpu.cpuFault = false → s.cpu.cpuState = .fetchingOpcode →
    accepts (beginTick s) = false →
    step s = finishTick (exec (fetchInstr (beginTick s)).2 (fetchInstr (beginTick s)).1)

/-- The instruction fetched is the one that the bytes at `pc` decode to; `pc` ends past the bytes read, the
immediates are in the temps, and nothing else of the registers changes (R15, R90, R120, R122, R144). The bytes
are steady ones, since other blocks step between the fetches. -/
def Obligations.FetchReadsProgram : Prop :=
  ∀ (s : State) (i : Instr) (rest : List Byte),
    s.cpu.haltBug = false →
    (∀ k : Word, k.toNat < 3 → steady s (s.regs.pc + k) = true) →
    decode [memRead s s.regs.pc, memRead s (s.regs.pc + 1), memRead s (s.regs.pc + 2)]
      = .instr i rest →
    (fetchInstr s).2 = i
      ∧ (fetchInstr s).1.regs
          = { s.regs with pc := s.regs.pc + BitVec.ofNat 16 i.fetchedBytes }
      ∧ operands i (fetchInstr s).1 = (fetchInstr s).1

/-- For all instructions, and for interrupt entry, the number of machine cycles of a step is the one of the
table, with the shorter count on a failed condition: the step is exactly that many ticks of the whole core (R140,
R142, R149, R320, R470; what one step is, is the model's choice, log 6). On `DMG`, where no tick is stalled (R348). -/
def Obligations.StepIsItsTicks : Prop :=
  ∀ s t : State, s.cfg.rev = .dmg → s.cpu.cpuFault = false → s.cpu.cpuState = .fetchingOpcode →
    step s = .next t → t = ticks (stepCycles s) s

/-- Interrupt entry: accepted exactly when `IME` is set and an enabled flag is pending; the lowest-numbered one is
serviced, its flag alone is cleared, `IME` and `ime_pending` are cleared, `pc` is pushed high byte first and the
vector taken, in `IRQ_ENTRY_CYCLES` cycles, by default five; nothing but `pc` is saved (R318, R319, R320; a count
below four is log 5). -/
def Obligations.InterruptEntry : Prop :=
  (∀ s : State, accepts s = true ↔ s.cpu.ime = true ∧ s.irq.ie &&& s.irq.flags ≠ 0)
    ∧ (∀ v : BitVec 5, v ≠ 0 → bit v (lowestBit v) = true ∧ ∀ j, j < lowestBit v → bit v j = false)
    ∧ (∀ s : State, s.cpu.cpuFault = false → s.cpu.cpuState = .fetchingOpcode →
        accepts (beginTick s) = true → step s = .next (endTick (takeInterrupt (beginTick s))))
    ∧ ∀ s : State,
        let k := lowestBit (s.irq.ie &&& s.irq.flags)
        let t := takeInterrupt s
        (irqSelect s).irq = { s.irq with flags := s.irq.flags &&& ~~~(1#5 <<< k) }
          ∧ (4 ≤ s.cfg.irqEntryCycles → (irqSeq s.cfg.irqEntryCycles).length = s.cfg.irqEntryCycles)
          ∧ Config.default.irqEntryCycles = 5
          ∧ t.regs = { s.regs with pc := BitVec.ofNat 16 (0x40 + 8 * k), sp := s.regs.sp - 2 }
          ∧ t.cpu.ime = false ∧ t.cpu.imePending = false ∧ t.cpu.cpuState = .fetchingOpcode
          ∧ (s.memWf = true → stackInRam s → holdsBelow t s.regs.sp s.regs.pc)

/-- The enable latency of `EI`: while only `ime_pending` is set no interrupt is taken, whatever is pending; the
next instruction runs, with `IME` set from its fetch on (R16, R145, R299). -/
def Obligations.EnableLatency : Prop :=
  ∀ s : State, s.cpu.cpuFault = false → s.cpu.cpuState = .fetchingOpcode → s.cpu.ime = false →
    s.cpu.imePending = true →
    step s = finishTick (exec (fetchInstr (beginTick s)).2 (fetchInstr (beginTick s)).1)
      ∧ (fetchInstr (beginTick s)).1.cpu.ime = true
      ∧ (fetchInstr (beginTick s)).1.cpu.imePending = false

/-- `NOP` does nothing, `DI` clears `IME` and `ime_pending`, `EI` sets `ime_pending`; `HALT` halts, or with
`HALT_BUG_SCOPE = ONLY_IF_PENDING_AT_HALT`, `IME = 0` and a pending flag goes on with `halt_bug` set; `STOP` skips its
pad byte and stops, or on `CGB` with the switch armed changes speed (R295 to R299, R139). -/
def Obligations.SystemInstructions : Prop :=
  ∀ s : State,
    exec .nop s = .next s
      ∧ exec .di s = .next (s.withCpu { s.cpu with ime := false, imePending := false })
      ∧ exec .ei s = .next (s.withCpu { s.cpu with imePending := true })
      ∧ exec .halt s = .next
          (if s.cfg.haltBugScope = .onlyIfPendingAtHalt ∧ s.cpu.ime = false
              ∧ s.irq.ie &&& s.irq.flags ≠ 0
            then s.withCpu { s.cpu with haltBug := true }
            else s.withCpu { s.cpu with cpuState := .halted })
      ∧ exec .stop s = .next
          (let t := s.setPc (s.regs.pc + BitVec.ofNat 16 (s.cfg.stopLength - 1))
           if s.cfg.rev = .cgb ∧ s.cpu.speedArmed = true
            then t.withCpu { s.cpu with
              doubleSpeed := !s.cpu.doubleSpeed, speedArmed := false, cpuState := .fetchingOpcode }
            else t.withCpu { s.cpu with cpuState := .stopped })

/-- A halted processor idles while no enabled flag is pending. When one is, it wakes in that cycle: with `IME = 1`
the interrupt is taken with the address after the `HALT`; with `IME = 0` the next instruction runs. With the default
`HALT_BUG_SCOPE` the wake sets `halt_bug`, so that its opcode fetch does not advance `pc`; with
`ONLY_IF_PENDING_AT_HALT` the wake sets none, and the fetch advances `pc` (R19, R154, R159, R296). -/
def Obligations.HaltedProcessor : Prop :=
  ∀ s : State, s.cpu.cpuFault = false → s.cpu.cpuState = .halted →
    let b := beginTick s
    let w := b.withCpu { b.cpu with cpuState := .fetchingOpcode }
    (b.irq.ie &&& b.irq.flags = 0 → step s = .next (endTick b))
      ∧ (b.irq.ie &&& b.irq.flags ≠ 0 → s.cpu.ime = true →
          step s = .next (endTick (takeInterrupt w)))
      ∧ (b.irq.ie &&& b.irq.flags ≠ 0 → s.cpu.ime = false →
          s.cfg.haltBugScope = .anyWakeWithIme0 →
          let u := w.withCpu { w.cpu with haltBug := true }
          step s = finishTick (exec (fetchInstr u).2 (fetchInstr u).1)
            ∧ (fetchOpcode (movePending u)).regs.pc = s.regs.pc
            ∧ (fetchOpcode (movePending u)).cpu.haltBug = false)
      ∧ (b.irq.ie &&& b.irq.flags ≠ 0 → s.cpu.ime = false →
          s.cfg.haltBugScope = .onlyIfPendingAtHalt →
          step s = finishTick (exec (fetchInstr w).2 (fetchInstr w).1)
            ∧ w.cpu.haltBug = s.cpu.haltBug
            ∧ (s.cpu.haltBug = false → (fetchOpcode (movePending w)).regs.pc = s.regs.pc + 1)
            ∧ (fetchOpcode (movePending w)).cpu.haltBug = false)

/-- A stopped processor idles until a button is pressed, whatever interrupts are pending; then it goes on at a
boundary in that same cycle (R155). -/
def Obligations.StoppedProcessor : Prop :=
  ∀ s : State, s.cpu.cpuFault = false → s.cpu.cpuState = .stopped →
    let b := beginTick s
    let w := b.withCpu { b.cpu with cpuState := .fetchingOpcode }
    (b.inputs.buttons = 0 → step s = .next (endTick b))
      ∧ (b.inputs.buttons ≠ 0 → accepts b = true → step s = .next (endTick (takeInterrupt w)))
      ∧ (b.inputs.buttons ≠ 0 → accepts b = false →
          step s = finishTick (exec (fetchInstr w).2 (fetchInstr w).1))

/-- An undefined opcode stops the machine for good: `cpu_fault` is set and `ir` holds the byte, nothing else changes,
and every later step faults (R152, R301, R311; that a later step is a fault and not a stutter is log 8). -/
def Obligations.UndefinedOpcodeStops : Prop :=
  (∀ (op : Byte) (s : State), ∃ t, exec (.undefined op) s = .next t ∧ t.cpu.cpuFault = true
      ∧ t.cpu.ir = op ∧ t = s.withCpu { s.cpu with cpuFault := true, ir := op })
    ∧ ∀ s : State, s.cpu.cpuFault = true → step s = .fault (.unsupportedOpcode s.cpu.ir)

/-- No other instruction raises an exception, no step is refused, and a step faults only when `cpu_fault` is set
already (R310, R312). That the step which fetches the undefined opcode is no fault yet, and the steps after it are, is
the model's choice, log 8. -/
def Obligations.OnlyUndefinedStops : Prop :=
  (∀ (i : Instr) (s t : State), exec i s = .next t → (∀ op, i ≠ .undefined op) →
      t.cpu.cpuFault = s.cpu.cpuFault)
    ∧ (∀ (s : State) (r : Refusal), step s ≠ .refused r)
    ∧ ∀ (s : State) (e : Fault), step s = .fault e → s.cpu.cpuFault = true

/-- The prefix byte: the next machine cycle fetches the second opcode, whose instruction follows in that same
cycle, with no boundary between them; the whole answers a next state (R144, R300). -/
def Obligations.PrefixedInstructions : Prop :=
  ∀ s : State,
    let u := nextCycle s
    let op := memRead u s.regs.pc
    exec .prefix_CB s = exec (decodeSecond op) (fetchPrefixed u)
      ∧ (fetchPrefixed u).regs = { s.regs with pc := s.regs.pc + 1 }
      ∧ (fetchPrefixed u).cpu.ir = op ∧ (fetchPrefixed u).cpu.cb = true
      ∧ ∃ t, exec .prefix_CB s = .next t

/-! ## Loads -/

/-- `LD r,r'` copies a register, `LD r,n` and `LD rr,nn` load an immediate, `LD SP,HL` copies `HL` one cycle after its
fetch; of the registers nothing else changes (R170, R171, R190, R192). -/
def Obligations.LoadsBetweenRegisters : Prop :=
  ∀ (i : Instr) (s : State),
    (∀ dst src, i.form = .ldRR dst src → exec i s = .next (s.setReg dst (s.regs.get src)))
      ∧ (∀ dst, i.form = .ldRN dst →
          exec i s = .next ((s.withTmp8 i.imm8).setReg dst i.imm8))
      ∧ (∀ p, i.form = .ldRrNn p →
          exec i s = .next ((s.withTmp16 i.imm16).withRegs (s.regs.setPair p i.imm16)))
      ∧ (i.form = .ldSpHl → exec i s = .next ((nextCycle s).setSp s.regs.hl))

/-- `LD r,(HL)`, `LD A,(BC)`, `LD A,(DE)`, `LD A,(nn)`, `LDH A,(C)`, `LDH A,(n)`, `LD A,(HL+)`, `LD A,(HL-)`: the byte at
the address in the cycle after the last fetch, with the pointer moved (R172, R175, R176, R179, R181, R183, R185,
R187). -/
def Obligations.LoadsFromMemory : Prop :=
  ∀ (i : Instr) (s : State) (a : Word), loadAddress i s = some a →
    let u := nextCycle (operands i s)
    let v := memRead u a
    exec i s = .next ((u.withTmp8 v).withRegs ((movedPointer i s.regs).set (loadTarget i) v))

/-- `LD (HL),r`, `LD (HL),n`, `LD (BC),A`, `LD (DE),A`, `LD (nn),A`, `LDH (C),A`, `LDH (n),A`, `LD (HL+),A`, `LD (HL-),A`: one
Router write in the cycle after the last fetch, with the pointer moved (R173, R174, R177, R178, R180, R182, R184,
R186, R188). -/
def Obligations.StoresToMemory : Prop :=
  ∀ (i : Instr) (s : State) (a : Word) (v : Byte), storeAddress i s = some a →
    storedByte i s = some v →
    exec i s = .next
      ((memWrite (nextCycle (operands i s)) a v).withRegs (movedPointer i s.regs))

/-- `PUSH rr` and `LD (nn),SP`: two byte writes in consecutive cycles, the high byte first for a push and the low
byte first for `LD (nn),SP`; in RAM the pushed value lies little-endian at the new `sp` (R14, R80, R191, R193). -/
def Obligations.TwoByteStores : Prop :=
  ∀ (i : Instr) (s : State),
    (∀ p, i.form = .push p →
      let v := s.regs.getStackPair p
      let w := memWrite ((idleCycles 2 s).setSp (s.regs.sp - 1)) (s.regs.sp - 1) (highByte v)
      let t := memWrite ((nextCycle w).setSp (s.regs.sp - 2)) (s.regs.sp - 2) (lowByte v)
      exec i s = .next t ∧ t.regs = { s.regs with sp := s.regs.sp - 2 }
        ∧ (s.memWf = true → stackInRam s → holdsBelow t s.regs.sp v))
      ∧ (i.form = .ldNnSp →
        let u := nextCycle (operands i s)
        let w := memWrite u i.imm16 (lowByte s.regs.sp)
        exec i s = .next (memWrite (nextCycle w) (i.imm16 + 1) (highByte s.regs.sp)))

/-- `POP rr` reads the low byte at `sp` and the high byte at `sp + 1` in the two cycles after the fetch; `POP AF` keeps
the upper nibble of the flags byte only (R13, R14, R194). -/
def Obligations.PopPair : Prop :=
  ∀ (i : Instr) (s : State) (p : StackPair), i.form = .pop p →
    let lo := memRead (idleCycles 1 s) s.regs.sp
    let hi := memRead (idleCycles 2 s) (s.regs.sp + 1)
    ∃ t, exec i s = .next t
      ∧ sameButRegs (idleCycles 2 s) t
          (match p with
           | .bc => { s.regs with sp := s.regs.sp + 2, b := hi, c := lo }
           | .de => { s.regs with sp := s.regs.sp + 2, d := hi, e := lo }
           | .hl => { s.regs with sp := s.regs.sp + 2, h := hi, l := lo }
           | .af => { s.regs with sp := s.regs.sp + 2, a := hi, f := lo &&& 0xF0 })

/-! ## Arithmetic -/

/-- The eight accumulator operations in their three operand forms, the result and the four flags in integers or
bit by bit; `CP` leaves `A`; nothing else but `A` and `F` changes (R200 to R226). -/
def Obligations.AccumulatorOperations : Prop :=
  ∀ (i : Instr) (s : State) (o : AluOp) (v : Byte) (u : State), aluOperand i s = some (o, v, u) →
    ∃ t, exec i s = .next t
      ∧ aluSpec o s.regs.a v s.regs.flagC t.regs
      ∧ onlyFlagsAnd [.a] s.regs t.regs
      ∧ t.outside = u.outside

/-- `INC` and `DEC` of a register or of the byte at `HL`: modulo 256, flags by the old byte, `C` unchanged; the memory
form reads in one cycle and writes in the next (R227 to R230). -/
def Obligations.IncrementDecrementByte : Prop :=
  ∀ (i : Instr) (s : State),
    let v := memRead (idleCycles 1 s) s.regs.hl
    let c := s.regs.flagC
    (∀ r, i.form = .incR r → ∃ t, exec i s = .next t
        ∧ t.regs.get r = s.regs.get r + 1 ∧ incFlags (s.regs.get r) c t.regs
        ∧ onlyFlagsAnd [r] s.regs t.regs ∧ t.outside = s.outside)
      ∧ (∀ r, i.form = .decR r → ∃ t, exec i s = .next t
        ∧ t.regs.get r = s.regs.get r - 1 ∧ decFlags (s.regs.get r) c t.regs
        ∧ onlyFlagsAnd [r] s.regs t.regs ∧ t.outside = s.outside)
      ∧ (i.form = .incHl → ∃ t, exec i s = .next t ∧ incFlags v c t.regs
        ∧ onlyFlagsAnd [] s.regs t.regs
        ∧ t.outside = (memWrite (idleCycles 2 s) s.regs.hl (v + 1)).outside)
      ∧ (i.form = .decHl → ∃ t, exec i s = .next t ∧ decFlags v c t.regs
        ∧ onlyFlagsAnd [] s.regs t.regs
        ∧ t.outside = (memWrite (idleCycles 2 s) s.regs.hl (v - 1)).outside)

/-- `DAA` adjusts `A` by the old flags and sets `C` and `H` as its rule says; `CPL` complements `A`; `SCF` sets and `CCF`
inverts the carry; nothing else changes but the flags their rules name (R231 to R234). -/
def Obligations.AdjustComplementCarry : Prop :=
  ∀ s : State,
    (∃ t, exec .daa s = .next t
        ∧ daaSpec s.regs.a s.regs.flagN s.regs.flagH s.regs.flagC t.regs.a t.regs.flagC
        ∧ t.regs.flagZ = decide (t.regs.a = 0) ∧ t.regs.flagN = s.regs.flagN ∧ t.regs.flagH = false
        ∧ onlyFlagsAnd [.a] s.regs t.regs ∧ t.outside = s.outside)
      ∧ (∃ t, exec .cpl s = .next t ∧ (∀ k, k < 8 → bit t.regs.a k = !bit s.regs.a k)
        ∧ t.regs.flagsAre s.regs.flagZ true true s.regs.flagC
        ∧ onlyFlagsAnd [.a] s.regs t.regs ∧ t.outside = s.outside)
      ∧ (∃ t, exec .scf s = .next t ∧ t.regs.flagsAre s.regs.flagZ false false true
        ∧ onlyFlagsAnd [] s.regs t.regs ∧ t.outside = s.outside)
      ∧ ∃ t, exec .ccf s = .next t ∧ t.regs.flagsAre s.regs.flagZ false false (!s.regs.flagC)
        ∧ onlyFlagsAnd [] s.regs t.regs ∧ t.outside = s.outside

/-- `DAA` after an addition or a subtraction of two packed-BCD bytes gives the decimal sum or difference, with the
decimal carry or borrow in `C` (R231). -/
def Obligations.DecimalArithmetic : Prop :=
  ∀ x y : Fin 100,
    let p := add8 (bcd x.val) (bcd y.val) false
    let q := daa8 p.value p.n p.h p.c
    let m := sub8 (bcd x.val) (bcd y.val) false
    let d := daa8 m.value m.n m.h m.c
    q.value = bcd ((x.val + y.val) % 100) ∧ q.c = decide (100 ≤ x.val + y.val)
      ∧ d.value = bcd ((x.val + 100 - y.val) % 100) ∧ d.c = decide (x.val < y.val)

/-- `ADD HL,rr`: the sum modulo 2^16, `N` cleared, `H` and `C` the carries out of bits 11 and 15, `Z` unchanged (R240);
`INC rr` and `DEC rr`: modulo 2^16 and no flag (R241, R242). -/
def Obligations.PairArithmetic : Prop :=
  ∀ (i : Instr) (s : State) (p : RegPair),
    let a := (s.regs.getPair p).toNat
    let h := s.regs.hl.toNat
    (i.form = .addHlRr p → ∃ t, exec i s = .next t ∧ t.regs.hl.toNat = (h + a) % 65536
        ∧ t.regs.flagsAre s.regs.flagZ false (decide (h % 4096 + a % 4096 > 0xFFF))
            (decide (h + a > 0xFFFF))
        ∧ onlyFlagsAnd [.h, .l] s.regs t.regs ∧ t.outside = (nextCycle s).outside)
      ∧ (i.form = .incRr p → ∃ t, exec i s = .next t
        ∧ (t.regs.getPair p).toNat = (a + 1) % 65536
        ∧ t.regs = s.regs.setPair p (t.regs.getPair p) ∧ t.outside = (nextCycle s).outside)
      ∧ (i.form = .decRr p → ∃ t, exec i s = .next t
        ∧ (t.regs.getPair p).toNat = (a + 65535) % 65536
        ∧ t.regs = s.regs.setPair p (t.regs.getPair p) ∧ t.outside = (nextCycle s).outside)

/-- `ADD SP,e` and `LD HL,SP+e`: the signed displacement is added modulo 2^16; `Z` and `N` are cleared; `H` and `C` are
those of the unsigned addition of the low byte of `sp` and the byte `e` (R195, R243, R244). -/
def Obligations.StackPointerOffset : Prop :=
  ∀ (i : Instr) (s : State),
    let a := s.regs.sp.toNat
    let e := i.imm8.toNat
    let sum := ((a : Int) + (if e < 0x80 then (e : Int) else (e : Int) - 256)) % 65536
    let hf := decide (a % 16 + e % 16 > 0xF)
    let cf := decide (a % 256 + e > 0xFF)
    (i.form = .addSpE → ∃ t, exec i s = .next t ∧ (t.regs.sp.toNat : Int) = sum
        ∧ t.regs.flagsAre false false hf cf
        ∧ t.regs = { s.regs with sp := t.regs.sp, f := t.regs.f }
        ∧ t.outside = (idleCycles 2 s).outside)
      ∧ (i.form = .ldHlSpE → ∃ t, exec i s = .next t ∧ (t.regs.hl.toNat : Int) = sum
        ∧ t.regs.flagsAre false false hf cf
        ∧ onlyFlagsAnd [.h, .l] s.regs t.regs
        ∧ t.outside = (idleCycles 1 s).outside)

/-! ## Rotates, shifts and bits -/

/-- The one-bit operations bit by bit, with their flags: on `A` with `Z` cleared, on a register with `Z` by the result,
on the byte at `HL` read in one cycle and written in the next (R245 to R266). -/
def Obligations.RotatesAndShifts : Prop :=
  ∀ (i : Instr) (s : State) (o : RotOp),
    let v := memRead (idleCycles 1 s) s.regs.hl
    let c := s.regs.flagC
    ((i.form = .rlca ∧ o = .rlc) ∨ (i.form = .rrca ∧ o = .rrc) ∨ (i.form = .rla ∧ o = .rl)
          ∨ (i.form = .rra ∧ o = .rr) →
        ∃ t co, exec i s = .next t ∧ rotSpec o s.regs.a c t.regs.a co
          ∧ t.regs.flagsAre false false false co
          ∧ onlyFlagsAnd [.a] s.regs t.regs ∧ t.outside = s.outside)
      ∧ (∀ r, i.form = .rotR o r →
        ∃ t co, exec i s = .next t ∧ rotSpec o (s.regs.get r) c (t.regs.get r) co
          ∧ t.regs.flagsAre (decide (t.regs.get r = 0)) false false co
          ∧ onlyFlagsAnd [r] s.regs t.regs ∧ t.outside = s.outside)
      ∧ (i.form = .rotHl o →
        ∃ t w co, exec i s = .next t ∧ rotSpec o v c w co
          ∧ t.regs.flagsAre (decide (w = 0)) false false co
          ∧ onlyFlagsAnd [] s.regs t.regs
          ∧ t.outside = (memWrite (idleCycles 2 s) s.regs.hl w).outside)

/-- `BIT` sets `Z` to the complement of the bit, clears `N`, sets `H`, leaves `C` and writes nothing else; `RES` and `SET`
change exactly the one bit of the register or of the byte at `HL`, and no flag (R267 to R272). -/
def Obligations.BitInstructions : Prop :=
  ∀ (i : Instr) (s : State) (k : Fin 8),
    let v := memRead (idleCycles 1 s) s.regs.hl
    let only (b : Bool) (x y : Byte) : Prop :=
      ∀ j, j < 8 → bit y j = if j = k.val then b else bit x j
    (∀ r, i.form = .bitR k r → ∃ t, exec i s = .next t
        ∧ t.regs.flagsAre (!bit (s.regs.get r) k.val) false true s.regs.flagC
        ∧ onlyFlagsAnd [] s.regs t.regs ∧ t.outside = s.outside)
      ∧ (i.form = .bitHl k → ∃ t, exec i s = .next t
        ∧ t.regs.flagsAre (!bit v k.val) false true s.regs.flagC
        ∧ onlyFlagsAnd [] s.regs t.regs ∧ t.outside = (idleCycles 1 s).outside)
      ∧ (∀ r, i.form = .resR k r → ∃ w, only false (s.regs.get r) w
        ∧ exec i s = .next (s.setReg r w))
      ∧ (∀ r, i.form = .setR k r → ∃ w, only true (s.regs.get r) w
        ∧ exec i s = .next (s.setReg r w))
      ∧ (i.form = .resHl k → ∃ w t, only false v w ∧ exec i s = .next t ∧ t.regs = s.regs
        ∧ t.outside = (memWrite (idleCycles 2 s) s.regs.hl w).outside)
      ∧ (i.form = .setHl k → ∃ w t, only true v w ∧ exec i s = .next t ∧ t.regs = s.regs
        ∧ t.outside = (memWrite (idleCycles 2 s) s.regs.hl w).outside)

/-! ## Control transfer -/

/-- Jumps: `JP nn`, `JP cc,nn`, `JR e`, `JR cc,e`, each target reached in a cycle of its own when the condition holds,
else nothing; `JP HL` in the fetch cycle. A condition tests `Z` or `C` (R281 to R286). -/
def Obligations.Jumps : Prop :=
  ∀ (i : Instr) (s : State),
    let u := operands i s
    let far := (nextCycle u).setPc i.imm16
    let near := (nextCycle u).setPc (s.regs.pc + i.imm8.signExtend 16)
    (i.form = .jpNn → exec i s = .next far)
      ∧ (∀ cc, i.form = .jpCcNn cc → exec i s = .next (if s.regs.holds cc then far else u))
      ∧ (i.form = .jpHl → exec i s = .next (s.setPc s.regs.hl))
      ∧ (i.form = .jrE → exec i s = .next near)
      ∧ (∀ cc, i.form = .jrCcE cc → exec i s = .next (if s.regs.holds cc then near else u))
      ∧ s.regs.holds .nz = !bit s.regs.f 7 ∧ s.regs.holds .z = bit s.regs.f 7
      ∧ s.regs.holds .nc = !bit s.regs.f 4 ∧ s.regs.holds .c = bit s.regs.f 4

/-- Calls and restarts push the address of the next instruction, high byte at the higher address, and go to their
target; a call whose condition fails only ends (R14, R280, R287, R288, R292). -/
def Obligations.CallsAndRestarts : Prop :=
  ∀ (i : Instr) (s : State),
    (∀ target, callTarget i s = some target →
      let u := idleCycles 2 (operands i s)
      let w := memWrite (u.setSp (s.regs.sp - 1)) (s.regs.sp - 1) (highByte s.regs.pc)
      let t := (memWrite ((nextCycle w).setSp (s.regs.sp - 2)) (s.regs.sp - 2)
        (lowByte s.regs.pc)).setPc target
      exec i s = .next t ∧ t.regs = { s.regs with sp := s.regs.sp - 2, pc := target }
        ∧ (s.memWf = true → stackInRam s → holdsBelow t s.regs.sp s.regs.pc))
      ∧ ∀ cc, i.form = .callCcNn cc → s.regs.holds cc = false →
          exec i s = .next (operands i s)

/-- `RET`, `RET cc` and `RETI` pop `pc`, low byte first; `RET cc` spends a cycle on its test and ends there when it fails;
`RETI` sets `IME` at once and clears `ime_pending` (R289 to R291, R322). -/
def Obligations.Returns : Prop :=
  ∀ (i : Instr) (s : State),
    let popped (n : Nat) : Word :=
      join (memRead (idleCycles (n + 1) s) (s.regs.sp + 1)) (memRead (idleCycles n s) s.regs.sp)
    let back (n : Nat) : Regs := { s.regs with sp := s.regs.sp + 2, pc := popped n }
    (i.form = .ret → ∃ t, exec i s = .next t ∧ sameButRegs (idleCycles 3 s) t (back 1))
      ∧ (∀ cc, i.form = .retCc cc → s.regs.holds cc = true →
          ∃ t, exec i s = .next t ∧ sameButRegs (idleCycles 4 s) t (back 2))
      ∧ (∀ cc, i.form = .retCc cc → s.regs.holds cc = false → exec i s = .next (nextCycle s))
      ∧ (i.form = .reti → ∃ t, exec i s = .next t
          ∧ sameButRegs ((idleCycles 3 s).withCpu { s.cpu with ime := true, imePending := false })
              t (back 1))

/-! ## Frames -/

/-- Loads: every register but the destination and a moved pointer, `sp` unless the rule writes it, every flag (but
`POP AF` and `LD HL,SP+e`, whose rules write them) and `pc` are unchanged; so is the control state, but for the dead
temps and for `speed_armed`, which a store may write (R189 to R195). -/
def Obligations.FrameOfLoads : Prop :=
  ∀ (i : Instr) (s t : State), i.form.family = .load8 ∨ i.form.family = .load16 →
    s.flagsWf = true → exec i s = .next t →
    keepsRegs i.form s.regs t.regs ∧ t.regs.pc = s.regs.pc
      ∧ { t.cpu with tmp8 := 0, tmp16 := 0, speedArmed := false }
          = { s.cpu with tmp8 := 0, tmp16 := 0, speedArmed := false }

/-- Arithmetic, rotates and bits: every register but the destination, `sp` unless the rule writes it, every flag the
rule does not write, and `pc` are unchanged; so is the control state, but for the dead temps and for `speed_armed`,
which a store may write (R200 to R272). -/
def Obligations.FrameOfArithmetic : Prop :=
  ∀ (i : Instr) (s t : State),
    i.form.family = .alu8 ∨ i.form.family = .alu16 ∨ i.form.family = .rotateBit →
    s.flagsWf = true → exec i s = .next t →
    keepsRegs i.form s.regs t.regs ∧ t.regs.pc = s.regs.pc
      ∧ { t.cpu with tmp8 := 0, tmp16 := 0, speedArmed := false }
          = { s.cpu with tmp8 := 0, tmp16 := 0, speedArmed := false }

/-- Jumps, calls, returns, `NOP`, `HALT`, `STOP`, `DI`, `EI` and undefined opcodes: no general register and no flag
changes, and `sp` only where the rule says so (R280 to R301). -/
def Obligations.FrameOfControl : Prop :=
  ∀ (i : Instr) (s t : State), i.form.family = .control ∨ i.form.family = .system →
    i ≠ .prefix_CB → exec i s = .next t →
    (∀ r, t.regs.get r = s.regs.get r) ∧ t.regs.f = s.regs.f
      ∧ (i.form.writesSp = false → t.regs.sp = s.regs.sp)
      ∧ (i.form.family = .system → i ≠ .stop → t.regs.pc = s.regs.pc)

/-- A form that stores nothing leaves every steady byte as it was, and every byte of the address space when it has no
cycle after its last fetch, `STOP` apart; the interrupt mask, the Router's and the controller's state stay, but for the
live clock, which the host sets. -/
def Obligations.FrameWithoutStore : Prop :=
  ∀ (i : Instr) (s t : State), i ≠ .prefix_CB → i.form.stores s.regs = false →
    exec i s = .next t →
    (∀ a, steady s a = true → memRead t a = memRead s a)
      ∧ ((formSeq i.form).length ≤ 1 → i ≠ .stop → ∀ a, memRead t a = memRead s a)
      ∧ t.irq.ie = s.irq.ie ∧ t.router = s.router ∧ t.pad.selAction = s.pad.selAction
      ∧ t.pad.selDirection = s.pad.selDirection
      ∧ { t.cart with rtcLive := Rtc.zero, rtcTimestamp := 0 }
          = { s.cart with rtcLive := Rtc.zero, rtcTimestamp := 0 }

/-- A form that stores a byte or two to plain memory leaves every other steady byte as it was: the address is the
one its rule gives, computed on the state before the instruction. -/
def Obligations.FrameOfStores : Prop :=
  (∀ (i : Instr) (s t : State) (a : Word), storeAddress i s = some a →
      (handler s a).isPlain = true → exec i s = .next t →
      ∀ b, handler s b ≠ handler s a → steady s b = true → memRead t b = memRead s b)
    ∧ ∀ (i : Instr) (s t : State) (a a' : Word), storePair i s = some (a, a') →
        (handler s a).isPlain = true → (handler s a').isPlain = true → exec i s = .next t →
        ∀ b, handler s b ≠ handler s a → handler s b ≠ handler s a' → steady s b = true →
          memRead t b = memRead s b

/-! ## Memory -/

/-- A byte written to RAM is the byte read back, and no other handler's byte changes (R62, R63). -/
def Obligations.ReadAfterWrite : Prop :=
  ∀ (s : State) (a : Word) (v : Byte), s.memWf = true → (handler s a).isRam = true →
    memRead (memWrite s a v) a = v
      ∧ ∀ b, handler s b ≠ handler s a → memRead (memWrite s a v) b = memRead s b

/-- 0xE000 to 0xFDFF behaves exactly as the address 0x2000 lower (R72); 0xFEA0 to 0xFEFF reads 0xFF and discards writes
(R74). -/
def Obligations.EchoAndNothing : Prop :=
  ∀ (s : State) (a : Word) (v : Byte),
    (0xE000 ≤ a.toNat → a.toNat < 0xFE00 →
        memRead s a = memRead s (a - 0x2000) ∧ memWrite s a v = memWrite s (a - 0x2000) v)
      ∧ (0xFEA0 ≤ a.toNat → a.toNat < 0xFF00 → memRead s a = 0xFF ∧ memWrite s a v = s)

/-- A CPU write to video RAM is discarded during `transfer`, one to the sprite table during `search` and `transfer`,
with the pipeline enabled, and stored otherwise; reads are never blocked (R66, R69, R73, R85, R396). -/
def Obligations.PpuBlocksWrites : Prop :=
  ∀ (s : State) (a : Word) (v : Byte),
    (0x8000 ≤ a.toNat → a.toNat < 0xA000 →
        let i := vramBankOf s * 0x2000 + (a.toNat - 0x8000)
        memRead s a = s.store.vram.read i
          ∧ memWrite s a v =
              (if bit s.ppu.lcdc 7 = true ∧ s.ppu.mode = .transfer then s else writeVram s i v))
      ∧ (0xFE00 ≤ a.toNat → a.toNat < 0xFEA0 →
        let i := a.toNat - 0xFE00
        memRead s a = s.store.oam.read i
          ∧ memWrite s a v =
              (if bit s.ppu.lcdc 7 = true ∧ (s.ppu.mode = .search ∨ s.ppu.mode = .transfer)
                then s else writeOam s i v))

/-- The Bank Controller: the registers that a write below 0x8000 sets, family by family, with bank 1 substituted for 0;
the banks they select; what the external window reaches (R68, R70, R94 to R103). That the clock window needs no RAM is
log 24, that `MULTICART` keeps RAM bank 0 or what it holds is log 25. -/
def Obligations.BankSelect : Prop :=
  ∀ (s : State) (a : Word) (v : Byte),
    let n := v.toNat
    let c := s.cart
    let nonzero (k : Nat) : Nat := if k = 0 then 1 else k
    let sets (lo hi : Nat) (d : Cart) : Prop :=
      lo ≤ a.toNat → a.toNat < hi → memWrite s a v = { s with cart := d }
    let banks (b0 bN : Nat) : Prop := c.bank0 s.cfg = b0 ∧ c.bankN s.cfg = bN
    let fills : Prop := memRead s a = 0xFF ∧ memWrite s a v = s
    let ram (k : Nat) : Prop :=
      let j := k % s.cfg.ramBanks * 0x2000 + (a.toNat - 0xA000)
      if s.cfg.ramBanks = 0 then fills
      else memRead s a = s.store.extRam.read j
        ∧ memWrite s a v = { s with store := { s.store with extRam := s.store.extRam.write j v } }
    let clock (k : Nat) : Prop :=
      memRead s a = c.rtcLatched.bytes.getD k 0
        ∧ ∃ live latched : Rtc,
          memWrite s a v = { s with cart := { c with rtcLive := live, rtcLatched := latched } }
            ∧ live.bytes = c.rtcLive.bytes.set k v ∧ latched.bytes = c.rtcLatched.bytes.set k v
    (s.cfg.family = .none → banks 0 1 ∧ sets 0 0x8000 c)
      ∧ (s.cfg.family ≠ .none → sets 0 0x2000 { c with ramEnable := decide (n % 16 = 0xA) })
      ∧ (s.cfg.family = .simple →
          banks (if c.mbcMode = true then c.hi2.toNat * 32 else 0) (c.hi2.toNat * 32 + c.lo5.toNat)
            ∧ sets 0x2000 0x4000 { c with lo5 := BitVec.ofNat 5 (nonzero (n % 32)) }
            ∧ sets 0x4000 0x6000 { c with hi2 := BitVec.ofNat 2 n }
            ∧ sets 0x6000 0x8000 { c with mbcMode := decide (n % 2 = 1) })
      ∧ (s.cfg.family = .rtc →
          banks 0 c.romBank.toNat
            ∧ sets 0x2000 0x4000 { c with romBank := BitVec.ofNat 9 (nonzero (n % 128)) }
            ∧ sets 0x4000 0x6000 { c with
                rtcSelect := BitVec.ofNat 4 n
                ramBank := if n % 16 ≤ 3 then BitVec.ofNat 4 n else c.ramBank }
            ∧ sets 0x6000 0x8000 { c with
                rtcLatched := if c.rtcLatchPrev = 0 ∧ n = 1 then c.rtcLive else c.rtcLatched
                rtcLatchPrev := v })
      ∧ (s.cfg.family = .wide9 →
          banks 0 (nonzero c.romBank.toNat)
            ∧ sets 0x2000 0x3000 { c with romBank := BitVec.ofNat 9 (c.romBank.toNat / 256 * 256 + n) }
            ∧ sets 0x3000 0x4000 { c with
                romBank := BitVec.ofNat 9 (n % 2 * 256 + c.romBank.toNat % 256) }
            ∧ sets 0x4000 0x6000 { c with ramBank := BitVec.ofNat 4 n })
      ∧ (s.cfg.family = .multicart →
          let outer := c.mcOuter.toNat * 2 ^ s.cfg.mcInnerBits
          banks (if c.mbcMode = true then outer else 0)
              (outer + c.mcInner.toNat % 2 ^ s.cfg.mcInnerBits)
            ∧ sets 0x2000 0x4000 { c with mcInner := BitVec.ofNat 5 (nonzero (n % 32)) }
            ∧ sets 0x4000 0x6000 { c with mcOuter := BitVec.ofNat 2 n }
            ∧ sets 0x6000 0x8000 { c with mbcMode := decide (n % 2 = 1) })
      ∧ (0x4000 ≤ a.toNat → a.toNat < 0x8000 → s.router.bootMapped = false →
          memRead s a = s.store.rom.read
            (c.bankN s.cfg % s.cfg.romBanks * 0x4000 + (a.toNat - 0x4000)))
      ∧ (0xA000 ≤ a.toNat → a.toNat < 0xC000 →
          (s.cfg.family = .none → if s.cfg.ramBanks = 1 then ram 0 else fills)
            ∧ (s.cfg.family ≠ .none → c.ramEnable = false → fills)
            ∧ (c.ramEnable = true →
                (s.cfg.family = .simple → ram (if c.mbcMode = true then c.hi2.toNat else 0))
                  ∧ (s.cfg.family = .rtc →
                      let k := c.rtcSelect.toNat
                      if k ≤ 3 then ram c.ramBank.toNat
                      else if 8 ≤ k ∧ k ≤ 12 then clock (k - 8)
                      else fills)
                  ∧ (s.cfg.family = .wide9 → ram c.ramBank.toNat)
                  ∧ (s.cfg.family = .multicart → ram c.ramBank.toNat)))

/-- BOOT: a write with bit 0 set unmaps the overlay, one with bit 0 clear does nothing, and none maps it; bit 0 of a read
is 1 when unmapped, bits 7 to 1 read 1 (R79). While mapped, 0x0000 to 0x00FF, and on `CGB` 0x0200 to 0x08FF, read the boot
image; other addresses and all cartridge writes are as without the overlay (R67, R78). -/
def Obligations.BootOverlay : Prop :=
  ∀ (s : State) (v : Byte) (a : Word),
    let mapped := s.router.bootMapped
    let u := { s with router := { s.router with bootMapped := false } }
    let covered := a.toNat < 0x100 ∨ (s.cfg.rev = .cgb ∧ 0x200 ≤ a.toNat ∧ a.toNat < 0x900)
    memWrite s 0xFF50 v =
        { s with router := { s.router with
            bootMapped := if v.toNat % 2 = 1 then false else mapped } }
      ∧ memRead s 0xFF50 = (if mapped = true then 0xFE else 0xFF)
      ∧ (mapped = true → covered → memRead s a =
          s.store.bootRom.read (if a.toNat < 0x100 then a.toNat else a.toNat - 0x100))
      ∧ (¬covered → a ≠ 0xFF50 → memRead s a = memRead u a)
      ∧ (a.toNat < 0x8000 → (memWrite s a v).cart = (memWrite u a v).cart
          ∧ (memWrite s a v).store = s.store)
      ∧ (a.toNat < 0x4000 →
          memRead u a = s.store.rom.read (s.cart.bank0 s.cfg % s.cfg.romBanks * 0x4000 + a.toNat))

/-- The overlay is never mapped again: no step, whatever it runs, maps it (R79, R465). -/
def Obligations.OverlayNeverReturns : Prop :=
  ∀ s t : State, step s = .next t → s.router.bootMapped = false → t.router.bootMapped = false

/-! ## Interrupt registers, timer, DMA -/

/-- `IF` and `IE`: five bits of storage each, the upper three read 1 and ignore writes (R314, R315, R327). -/
def Obligations.InterruptRegisters : Prop :=
  ∀ (s : State) (v : Byte),
    memRead s 0xFF0F = 0xE0 ||| s.irq.flags.setWidth 8
      ∧ memRead s 0xFFFF = 0xE0 ||| s.irq.ie.setWidth 8
      ∧ memWrite s 0xFF0F v = { s with irq := { s.irq with flags := v.setWidth 5 } }
      ∧ memWrite s 0xFFFF v = { s with irq := { s.irq with ie := v.setWidth 5 } }

/-- The timer's tick: the divider advances by `TCYC_PER_STEP`, by default 4; on the clocking edge of the gated bit `TIMA` counts, and from 0xFF
becomes 0 with the reload pending and no request yet; one tick later it is `TMA` and interrupt 2 is requested
(R330, R332 to R334). -/
def Obligations.TimerTick : Prop :=
  ∀ s : State,
    let t := timerStep s
    let sel := [9, 3, 5, 7].getD (s.timer.tac.toNat % 4) 0
    let next := s.timer.divider + BitVec.ofNat 16 s.cfg.tcycPerStep
    let now := bit next sel && bit s.timer.tac 2
    let edge := (s.cfg.timerEdge = .rising ∧ s.timer.bitPrev = false ∧ now = true)
      ∨ (s.cfg.timerEdge = .falling ∧ s.timer.bitPrev = true ∧ now = false)
    let before := if s.timer.reload = .pending then s.timer.tma else s.timer.tima
    t.timer.divider = next ∧ t.timer.bitPrev = now
      ∧ t.timer.tma = s.timer.tma ∧ t.timer.tac = s.timer.tac
      ∧ (edge → before = 0xFF → t.timer.tima = 0 ∧ t.timer.reload = .pending)
      ∧ (edge → before ≠ 0xFF → t.timer.tima = before + 1)
      ∧ (¬edge → t.timer.tima = before)
      ∧ (¬edge ∨ before ≠ 0xFF →
          t.timer.reload = if s.timer.reload = .pending then .reloaded else .idle)
      ∧ t.irq = (if s.timer.reload = .pending
          then { s.irq with flags := s.irq.flags ||| 4 } else s.irq)

/-- Writes of the timer registers: DIV clears the whole divider; TIMA in the delay tick cancels the reload and in the
reload tick is ignored; TMA in the reload tick reaches `TIMA` too; TAC keeps three bits (R331, R332, R335, R336). -/
def Obligations.TimerWrites : Prop :=
  ∀ (s : State) (v : Byte),
    memWrite s 0xFF04 v = { s with timer := { s.timer with divider := 0 } }
      ∧ memRead s 0xFF04 = highByte s.timer.divider
      ∧ memWrite s 0xFF05 v =
          (match s.timer.reload with
           | .idle => { s with timer := { s.timer with tima := v } }
           | .pending => { s with timer := { s.timer with tima := v, reload := .idle } }
           | .reloaded => s)
      ∧ memWrite s 0xFF06 v =
          (match s.timer.reload with
           | .reloaded => { s with timer := { s.timer with tma := v, tima := v } }
           | _ => { s with timer := { s.timer with tma := v } })
      ∧ memWrite s 0xFF07 v = { s with timer := { s.timer with tac := v.setWidth 3 } }
      ∧ memRead s 0xFF07 = 0xF8 ||| s.timer.tac.setWidth 8

/-- Sprite-table DMA: a write of DMA copies 160 bytes from the source page to the sprite table inside the write,
whatever the pipeline does, and changes nothing else (R340, R341). -/
def Obligations.SpriteDma : Prop :=
  ∀ (s : State) (v : Byte), s.memWf = true →
    let u := { s with dma := { s.dma with oamDmaSrc := v } }
    let t := memWrite s 0xFF46 v
    (∀ i, i < 160 → t.store.oam.read i = memRead u (join v 0 + BitVec.ofNat 16 i))
      ∧ (∀ i, 160 ≤ i → t.store.oam.read i = s.store.oam.read i)
      ∧ t = { u with store := { u.store with oam := t.store.oam } }
      ∧ memRead t 0xFF46 = v

/-- The bulk copy engine. On `DMG` 0xFF51 to 0xFF55 read 0xFF, ignore writes, and the CPU steps in every tick. On `CGB` a
write of HDMA5 starts a general or a blanking-synchronised copy or stops the latter, an entry into `hblank` starts a
block; at the default rate a tick with a block in flight copies the next two bytes into video RAM, stalls the CPU, and
with the last two ends the block: the transfer ends, or a general one goes on with the next block; a tick without one
frees the CPU (R343 to R349). The general copy's busy case is log 23, other rates are log 5. -/
def Obligations.BulkCopy : Prop :=
  ∀ (s : State) (v : Byte),
    (s.cfg.rev = .dmg →
        (∀ a : Word, 0xFF51 ≤ a.toNat → a.toNat ≤ 0xFF55 → memRead s a = 0xFF ∧ memWrite s a v = s)
          ∧ (tickHead s).dma.cpuStall = false ∧ cpuPart (tickHead s) = cpuStep (tickHead s))
      ∧ (s.cfg.rev = .cgb →
        memRead s 0xFF55 = (if s.dma.hdmaActive = true then 0 else 0x80) ||| s.dma.hdmaBlocks.setWidth 8
          ∧ (∀ a : Word, 0xFF51 ≤ a.toNat → a.toNat ≤ 0xFF54 → memRead s a = 0xFF)
          ∧ (bit v 7 = true → (memWrite s 0xFF55 v).dma =
              { s.dma with hdmaMode := .hblank, hdmaBlocks := v.setWidth 7, hdmaActive := true
                           hdmaBlockLeft := 0 })
          ∧ (bit v 7 = false → s.dma.hdmaActive = false → (memWrite s 0xFF55 v).dma =
              { s.dma with hdmaMode := .general, hdmaBlocks := v.setWidth 7, hdmaActive := true
                           hdmaBlockLeft := 16 })
          ∧ (bit v 7 = false → s.dma.hdmaActive = true → s.dma.hdmaMode = .hblank →
              (memWrite s 0xFF55 v).dma = { s.dma with hdmaActive := false })
          ∧ timerDmaStep s = dmaStep (timerStep s)
          ∧ ∀ r : PpuRun, (applyPpu s r).dma = { s.dma with
              hdmaBlockLeft := if r.hblankEntered = true ∧ s.dma.hdmaActive = true ∧ s.dma.hdmaMode = .hblank
                then 16 else s.dma.hdmaBlockLeft })
      ∧ (s.dma.hdmaBlockLeft = 0 → dmaStep s = { s with dma := { s.dma with cpuStall := false } })
      ∧ (s.cfg.hdmaBytesPerCycle = 2 → 2 ≤ s.dma.hdmaBlockLeft.toNat →
        let dst := s.dma.hdmaDst.toNat
        let cell (k : Nat) : Nat := vramBankOf s * 0x2000 + (dst + k) % 0x2000
        let one := writeVram s (cell 0) (memRead s s.dma.hdmaSrc)
        let two := writeVram one (cell 1) (memRead one (s.dma.hdmaSrc + 1))
        let left := s.dma.hdmaBlockLeft - 2
        let d : Dma := { s.dma with
          hdmaSrc := s.dma.hdmaSrc + 2
          hdmaDst := BitVec.ofNat 16 (0x8000 + (dst + 2) % 0x2000)
          hdmaBlockLeft := left
          cpuStall := true }
        dmaStep s = { two with dma :=
          if left ≠ 0 then d
          else if s.dma.hdmaBlocks = 0 then { d with hdmaActive := false, hdmaBlocks := 0x7F }
          else { d with
            hdmaBlocks := s.dma.hdmaBlocks - 1
            hdmaBlockLeft := if s.dma.hdmaMode = .general ∧ s.dma.hdmaActive = true then 16 else 0 } })
      ∧ (s.dma.cpuStall = true → cpuPart s = (s, !s.cpu.cpuFault))

/-! ## Pixel pipeline, sound, input -/

/-- Disabling the pipeline resets the line, and the dot to the re-entry offset, at once and re-enters `search`, and
while it is disabled a tick leaves it alone; enabling it, with parameters that make a frame, starts line 0, with the
STAT interrupt if its `search` mask is set (R397, R398). -/
def Obligations.PipelineEnable : Prop :=
  ∀ (s : State) (v : Byte),
    (bit s.ppu.lcdc 7 = true → bit v 7 = false → memWrite s 0xFF40 v =
        { s with ppu := { s.ppu with
            lcdc := v, ly := 0, dot := s.cfg.ppuReentryOffset, mode := .search, lx := 0, winLine := 0 } })
      ∧ (bit s.ppu.lcdc 7 = false → ppuStep s = s)
      ∧ (timingWf s.cfg = true → bit s.ppu.lcdc 7 = false → s.ppu.ly = 0 → bit v 7 = true →
          let t := memWrite s 0xFF40 v
          t.ppu.mode = .search ∧ t.ppu.dot = s.ppu.dot ∧ t.ppu.ly = 0 ∧ t.ppu.winLine = 0
            ∧ t.ppu.lycMatch = s.ppu.lycMatch
            ∧ t.irq.flags = (if bit s.ppu.statMask 2 = true then s.irq.flags ||| 2 else s.irq.flags))

/-- The mode entries, the line compare, the dots at which they happen, and the interrupts they request. `search`: the
first ten entries of the sprite table, in index order, whose rows cover the line, with integer comparison, and `win_line`
cleared on line 0. `hblank`: the window's line counted if it was drawn, and on `CGB` a block of a blanking-synchronised
copy. `vblank`: interrupt 0 always, and the frame done. Each requests interrupt 1 if its STAT mask bit is set, as a
matching compare does; the compare is made at the start of each line but line 0, and for 0 at dot 4 of the highest line,
from which on LY reads 0 (R386 to R388, R392 to R395). `statMask` holds STAT bits 6 to 3; `winDrawn` is the model's
record of R390. -/
def Obligations.ModeEntries : Prop :=
  ∀ (s : State) (r : PpuRun) (vram oam : Memory) (v : Byte),
    let cfg := s.cfg
    let h := if bit r.ppu.lcdc 2 = true then 16 else 8
    let covers (i : Nat) : Bool :=
      decide ((oam.read (4 * i)).toNat ≤ r.ppu.ly.toNat + 16)
        && decide (r.ppu.ly.toNat + 16 < (oam.read (4 * i)).toNat + h)
    let line := r.ppu.ly.toNat
    let dot := r.ppu.dot + 1
    let q : PpuRun := { r with ppu := { r.ppu.drawDot cfg.rev vram oam with dot := dot } }
    let line' : Byte := BitVec.ofNat 8 ((line + 1) % cfg.ppuTotalLines)
    let z : PpuRun := { q with ppu := { q.ppu with dot := 0, ly := line' } }
    let c := if line' = 0 then z else z.lineCompare line'
    r.enterSearch oam =
        { r with
          statReq := r.statReq || bit r.ppu.statMask 2
          ppu := { r.ppu with
            mode := .search
            winLine := if r.ppu.ly = 0 then 0 else r.ppu.winLine
            lineSprites := ((List.range 40).filter covers).take 10 } }
      ∧ r.enterTransfer = { r with ppu := { r.ppu with mode := .transfer, lx := 0, winDrawn := false } }
      ∧ r.enterHblank =
        { r with
          hblankEntered := true
          statReq := r.statReq || bit r.ppu.statMask 0
          ppu := { r.ppu with
            mode := .hblank
            winLine := if r.ppu.winDrawn = true then r.ppu.winLine + 1 else r.ppu.winLine } }
      ∧ r.enterVblank =
        { r with
          vblankReq := true
          statReq := r.statReq || bit r.ppu.statMask 1
          ppu := { r.ppu with mode := .vblank, frameDone := true } }
      ∧ r.lineCompare v =
        { r with
          statReq := r.statReq || (decide (v = r.ppu.lyc) && bit r.ppu.statMask 3)
          ppu := { r.ppu with lycMatch := decide (v = r.ppu.lyc) } }
      ∧ (timingWf cfg = true → line < cfg.ppuTotalLines → r.dot cfg vram oam =
          if dot = cfg.ppuLineDots then
            if line'.toNat < cfg.ppuVisibleLines then c.enterSearch oam
            else if line'.toNat = cfg.ppuVisibleLines then c.enterVblank
            else c
          else if line < cfg.ppuVisibleLines ∧ dot = cfg.ppuD1 then q.enterTransfer
          else if line < cfg.ppuVisibleLines ∧ dot = cfg.ppuD1 + cfg.ppuD2 then q.enterHblank
          else if line = cfg.ppuTotalLines - 1 ∧ dot = 4 then q.lineCompare 0
          else q)
      ∧ (bit s.ppu.lcdc 7 = true → ppuStep s = applyPpu s (PpuRun.dots cfg s.store.vram s.store.oam
          (if s.cpu.doubleSpeed = true then cfg.tcycPerStep / 2 else cfg.tcycPerStep) (PpuRun.of s.ppu)))
      ∧ applyPpu s r = { s with
          ppu := r.ppu
          irq := { s.irq with flags := s.irq.flags ||| (if r.vblankReq = true then 1 else 0)
            ||| (if r.statReq = true then 2 else 0) }
          dma := { s.dma with hdmaBlockLeft :=
            if r.hblankEntered = true ∧ cfg.rev = .cgb ∧ s.dma.hdmaActive = true ∧ s.dma.hdmaMode = .hblank
              then 16 else s.dma.hdmaBlockLeft } }
      ∧ memRead s 0xFF44 =
          (if bit s.ppu.lcdc 7 = false ∨ (s.ppu.ly.toNat = cfg.ppuTotalLines - 1 ∧ 4 ≤ s.ppu.dot) then 0
            else s.ppu.ly)

/-- A trigger of each channel, with sound on, reloads an expired length, the period counter, the running volume and the
envelope divider, and enables the channel exactly if its DAC is on; channel 1 also restarts and checks its sweep unit,
channel 3 its phase, channel 4 its LFSR; the duty steps and the rest of the sound state stay (R426, R432, R434, R435; a
period of 0 loads 8, held as 0, log 15; `full` is log 16; `enabled` after the sweep check is log 17). -/
def Obligations.SoundTrigger : Prop :=
  ∀ (s : State) (v : Byte), s.apu.on = true → bit v 7 = true →
    let p := s.apu
    let f (freq : BitVec 11) : BitVec 11 := BitVec.ofNat 11 (v.toNat % 8 * 256 + freq.toNat % 256)
    let loud (e : Envelope) : Envelope := { e with vol := e.start, div := e.period }
    let reload {w : Nat} (l : Length w) : Length w :=
      if l.full = false ∧ l.count = 0 then { count := 0, full := true } else l
    let pulse (c : Pulse) : Pulse := { c with
      enabled := c.dac, lengthEn := bit v 6, freq := f c.freq, env := loud c.env
      length := reload c.length
      timer := 4 * (2048 - (f c.freq).toNat) }
    (memWrite s 0xFF14 v).apu = { p with
        ch1 := pulse p.ch1
        sweep := { p.sweep with
          shadow := f p.ch1.freq
          div := p.sweep.period
          en := decide (p.sweep.period ≠ 0 ∨ p.sweep.shift ≠ 0)
          negUsed := decide (p.sweep.shift ≠ 0) && p.sweep.neg } }
      ∧ (memWrite s 0xFF19 v).apu = { p with ch2 := pulse p.ch2 }
      ∧ (memWrite s 0xFF1E v).apu = { p with ch3 := { p.ch3 with
          enabled := p.ch3.dac, lengthEn := bit v 6, freq := f p.ch3.freq, env := loud p.ch3.env
          length := reload p.ch3.length
          timer := 2 * (2048 - (f p.ch3.freq).toNat)
          phase := 0 } }
      ∧ (memWrite s 0xFF23 v).apu = { p with ch4 := { p.ch4 with
          enabled := p.ch4.dac, lengthEn := bit v 6, env := loud p.ch4.env
          length := reload p.ch4.length
          timer := (if p.ch4.divisor = 0 then 8 else 16 * p.ch4.divisor.toNat) * 2 ^ p.ch4.shift.toNat
          lfsr := 0x7FFF } }

/-- P1 and its edge: a write stores the two select bits; after it, and when the host changes the buttons between two
ticks, a line that goes from 1 to 0 requests interrupt 4, and nothing else does (R449, R477; the host's list of pending
actions is the model's own, log 14). -/
def Obligations.JoypadEdge : Prop :=
  ∀ (s : State) (v : Byte) (b : BitVec 8),
    let edge (p : Pad) (buttons : BitVec 8) (t : State) : Prop :=
      ∃ lines : BitVec 4,
        (∀ k, k < 4 → bit lines k =
          !((!p.selDirection && bit buttons k) || (!p.selAction && bit buttons (k + 4))))
        ∧ t.pad = { p with joyPrev := lines }
        ∧ t.irq = (if (List.range 4).any (fun k => bit s.pad.joyPrev k && !bit lines k) = true
            then { s.irq with flags := s.irq.flags ||| 16 } else s.irq)
    let t := memWrite s 0xFF00 v
    edge { s.pad with selAction := bit v 5, selDirection := bit v 4 } s.inputs.buttons t
      ∧ t = { s with pad := t.pad, irq := t.irq }
      ∧ (s.inputs.script = [(0, .setButtons b)] →
          let u := hostPhase s
          edge s.pad b u
            ∧ u = { s with pad := u.pad, irq := u.irq, inputs := { s.inputs with buttons := b, script := [] } })

/-! ## Invariants and reset -/

/-- Every step keeps every storage region in canonical form, so that equal memories are equal data. -/
def Obligations.StepKeepsMemoryCanonical : Prop :=
  ∀ s t : State, s.memWf = true → step s = .next t → t.memWf = true

/-- The low nibble of `F` reads 0 after every step (R13). -/
def Obligations.StepKeepsFlagsNibble : Prop :=
  ∀ s t : State, s.flagsWf = true → step s = .next t → t.flagsWf = true

/-- No step changes the cartridge image, the boot image or a parameter, whatever a program stores (R30, R34, R67,
R94). -/
def Obligations.StepKeepsImages : Prop :=
  ∀ s t : State, step s = .next t →
    t.store.rom = s.store.rom ∧ t.store.bootRom = s.store.bootRom ∧ t.cfg = s.cfg

/-- Every step keeps the pipeline on its schedule: the mode is the one of the line and the dot, the counters are in
range and at most ten sprites are selected, for parameters that make a frame (R5, R25, R380, R385 to R388, R393,
R397). -/
def Obligations.StepKeepsPpuSchedule : Prop :=
  ∀ s t : State, timingWf s.cfg = true → s.ppu.scheduled s.cfg → step s = .next t →
    t.ppu.scheduled t.cfg

/-- Every step keeps each length counter in the one form of its number and a channel without DAC
disabled (R422 to R424, R431, R434, R435; log 16). -/
def Obligations.StepKeepsSound : Prop :=
  ∀ s t : State, s.apu.lengthsWf = true → s.apu.dacsWf = true → step s = .next t →
    t.apu.lengthsWf = true ∧ t.apu.dacsWf = true

/-- On `DMG` what only the enhanced revision has stays at rest: single speed, one bank each, no bulk copy and no stall
(R20, R31, R71, R348); and the bank registers that forbid 0 never hold it (R97 to R101). -/
def Obligations.StepKeepsBanks : Prop :=
  (∀ s t : State, s.dmgAtRest = true → step s = .next t → t.dmgAtRest = true)
    ∧ ∀ s t : State, Cart.banksWf s.cfg s.cart = true → step s = .next t →
        Cart.banksWf t.cfg t.cart = true

/-- `power_on` with `BOOT = SKIP`: the register file of each revision, the entry point, interrupts off, the pipeline and
the sound on, whatever is unspecified; with `BOOT = ROM` the entry is 0x0000 with the overlay mapped (R36, R461).
An unrecognised bank-controller family is refused before the core starts (R105, R476). -/
def Obligations.PowerOnValues : Prop :=
  ∀ (fam : MbcFamily) (cfg : Config) (cart : Cartridge) (save : Persistent) (u : Unspecified),
    powerOn none cfg cart save u = .refused .unrecognisedController
      ∧ ∃ s, powerOn (some fam) cfg cart save u = .next s
      ∧ (cfg.boot = .skip → cfg.rev = .dmg → s.regs =
          { a := 0x01, f := 0xB0, b := 0x00, c := 0x13, d := 0x00, e := 0xD8, h := 0x01, l := 0x4D
            sp := 0xFFFE, pc := 0x0100 } ∧ s.timer.divider = 0xABCC ∧ s.dma.oamDmaSrc = 0xFF)
      ∧ (cfg.boot = .skip → cfg.rev = .cgb → s.regs =
          { a := 0x11, f := 0x80, b := 0x00, c := 0x00, d := 0xFF, e := 0x56, h := 0x00, l := 0x0D
            sp := 0xFFFE, pc := 0x0100 } ∧ s.dma.oamDmaSrc = 0x00)
      ∧ (cfg.boot = .skip → s.router.bootMapped = false ∧ s.irq.flags = 1 ∧ s.ppu.lcdc = 0x91
          ∧ s.ppu.bgp = 0xFC ∧ s.apu.on = true ∧ memRead s 0xFF00 = 0xCF ∧ memRead s 0xFF26 = 0xF1)
      ∧ (cfg.boot = .rom → s.regs.pc = 0 ∧ s.regs.f &&& 0x0F = 0 ∧ s.router.bootMapped = true
          ∧ s.irq.flags = 0 ∧ s.ppu.lcdc = 0 ∧ s.apu.on = false ∧ memRead s 0xFF00 = 0xFF)
      ∧ s.cpu.ime = false ∧ s.cpu.imePending = false ∧ s.cpu.cpuState = .fetchingOpcode
      ∧ s.cpu.haltBug = false ∧ s.cpu.cpuFault = false ∧ s.irq.ie = 0
      ∧ s.cart.romBank = 1 ∧ s.cart.ramEnable = false ∧ s.store.extRam = save.extRam
      ∧ s.cart.rtcLive = save.rtcLive ∧ s.store.rom = cart.rom

/-- The state after reset meets every invariant that the steps keep (the values that the spec does not give are the
model's choice, log 1 to 4). -/
def Obligations.ResetMeetsInvariants : Prop :=
  State.reset.memWf = true ∧ State.reset.flagsWf = true ∧ State.reset.ppu.scheduled State.reset.cfg
    ∧ timingWf State.reset.cfg = true ∧ State.reset.apu.lengthsWf = true ∧ State.reset.apu.dacsWf = true
    ∧ State.reset.dmgAtRest = true ∧ Cart.banksWf State.reset.cfg State.reset.cart = true
end

