-- ==== Sys2Proof/Laws/Cells.lean ====
section
/-! SUPPORT. Reading what was written, and the canonical form, of a sparse array of cells. -/

namespace Sys2Proof.Machine

variable {w : Nat}

theorem cellsFrom_mono {lo lo' : Nat} {m : Cells w} (h : lo' ≤ lo) (hm : cellsFrom lo m = true) :
    cellsFrom lo' m = true := by
  cases m with
  | nil => rfl
  | cons p rest =>
    simp only [cellsFrom, Bool.and_eq_true, decide_eq_true_eq] at hm ⊢
    exact ⟨⟨by omega, hm.1.2⟩, hm.2⟩

/-- An index below every listed one reads 0. -/
theorem cellRead_below {lo i : Nat} {m : Cells w} (hm : cellsFrom lo m = true) (h : i < lo) :
    cellRead m i = 0#w := by
  induction m generalizing lo with
  | nil => rfl
  | cons p rest ih =>
    simp only [cellsFrom, Bool.and_eq_true, decide_eq_true_eq] at hm
    simp only [cellRead]
    rw [if_neg (by omega)]
    exact ih hm.2 (by omega)

/-- A write keeps the canonical form above any bound that the index respects. -/
theorem cellsFrom_write {lo i : Nat} {m : Cells w} (v : BitVec w) (hm : cellsFrom lo m = true)
    (h : lo ≤ i) : cellsFrom lo (cellWrite m i v) = true := by
  induction m generalizing lo with
  | nil =>
    simp only [cellWrite]
    split <;> simp_all [cellsFrom]
  | cons p rest ih =>
    obtain ⟨k, u⟩ := p
    simp only [cellsFrom, Bool.and_eq_true, decide_eq_true_eq] at hm
    simp only [cellWrite]
    split
    · split <;> simp_all [cellsFrom]
    · split
      · split
        · exact cellsFrom_mono (by omega) hm.2
        · simp_all [cellsFrom]
      · simp only [cellsFrom, Bool.and_eq_true, decide_eq_true_eq]
        exact ⟨⟨hm.1.1, hm.1.2⟩, ih hm.2 (by omega)⟩

/-- A write keeps the canonical form. -/
theorem cellsWf_write {m : Cells w} (i : Nat) (v : BitVec w) (hm : cellsWf m = true) :
    cellsWf (cellWrite m i v) = true :=
  cellsFrom_write v hm (Nat.zero_le i)

theorem cellRead_write_from {lo i j : Nat} {m : Cells w} (v : BitVec w)
    (hm : cellsFrom lo m = true) :
    cellRead (cellWrite m i v) j = if j = i then v else cellRead m j := by
  induction m generalizing lo with
  | nil =>
    simp only [cellWrite]
    split <;> simp_all [cellRead]
  | cons p rest ih =>
    obtain ⟨k, u⟩ := p
    simp only [cellsFrom, Bool.and_eq_true, decide_eq_true_eq] at hm
    simp only [cellWrite]
    split
    · split
      · split
        · subst_vars; simp only [cellRead]; rw [if_neg (by omega)]
          exact cellRead_below hm.2 (by omega)
        · rfl
      · simp only [cellRead]
    · split
      · subst_vars
        split
        · split
          · subst_vars; exact cellRead_below hm.2 (by omega)
          · simp only [cellRead]; rw [if_neg (by assumption)]
        · simp only [cellRead]; split <;> rfl
      · simp only [cellRead]
        split
        · rw [if_neg (by omega)]
        · exact ih hm.2

/-- The value just written is the value read. -/
theorem cellRead_write_same {m : Cells w} (i : Nat) (v : BitVec w) (hm : cellsWf m = true) :
    cellRead (cellWrite m i v) i = v := by
  rw [cellRead_write_from v hm, if_pos rfl]

/-- A write leaves every other index alone; this needs no canonical form. -/
theorem cellRead_write_other {i j : Nat} (m : Cells w) (v : BitVec w) (h : j ≠ i) :
    cellRead (cellWrite m i v) j = cellRead m j := by
  induction m with
  | nil =>
    simp only [cellWrite]
    split <;> simp [cellRead, h]
  | cons p rest ih =>
    obtain ⟨k, u⟩ := p
    simp only [cellWrite]
    split
    · split
      · rfl
      · simp only [cellRead, if_neg h]
    · split
      · subst_vars
        split <;> simp only [cellRead, if_neg h]
      · simp only [cellRead, ih]

/-- Arrays in canonical form that read alike are the same list. -/
theorem cells_ext_from {lo : Nat} {m n : Cells w} (hm : cellsFrom lo m = true)
    (hn : cellsFrom lo n = true) (h : ∀ i, cellRead m i = cellRead n i) : m = n := by
  induction m generalizing lo n with
  | nil =>
    cases n with
    | nil => rfl
    | cons p rest =>
      have := h p.1
      simp_all [cellRead, cellsFrom]
  | cons p rest ih =>
    obtain ⟨k, u⟩ := p
    simp only [cellsFrom, Bool.and_eq_true, decide_eq_true_eq] at hm
    cases n with
    | nil =>
      have := h k
      simp_all [cellRead]
    | cons q rest' =>
      obtain ⟨k', u'⟩ := q
      simp only [cellsFrom, Bool.and_eq_true, decide_eq_true_eq] at hn
      have hk := h k
      have hk' := h k'
      simp only [cellRead, if_true] at hk hk'
      have e : k = k' := by
        by_contra hne
        rw [if_neg hne] at hk
        rw [if_neg (Ne.symm hne)] at hk'
        rcases Nat.lt_or_gt_of_ne hne with hlt | hlt
        · rw [cellRead_below hn.2 (by omega)] at hk; exact hm.1.2 hk
        · rw [cellRead_below hm.2 (by omega)] at hk'; exact hn.1.2 hk'.symm
      subst e
      simp only [if_true] at hk
      subst hk
      congr 1
      refine ih hm.2 hn.2 fun i => ?_
      have := h i
      simp only [cellRead] at this
      by_cases hi : i = k
      · subst hi; rw [cellRead_below hm.2 (by omega), cellRead_below hn.2 (by omega)]
      · rwa [if_neg hi, if_neg hi] at this

/-- Equal memories are equal data. -/
theorem cells_ext {m n : Cells w} (hm : cellsWf m = true) (hn : cellsWf n = true)
    (h : ∀ i, cellRead m i = cellRead n i) : m = n :=
  cells_ext_from hm hn h

end Sys2Proof.Machine
end

