-- ==== Sys2Proof/Laws/Clock.lean ====
section
/-! SUPPORT. What the other blocks leave alone between two machine cycles of the processor, and the canonical
form of memory under them. -/

namespace Sys2Proof.Machine

/-- What no block but the processor changes: the parameters, the registers, the control state, the
Router's and the controller's bank state, and every region but video RAM. -/
structure Quiet where
  cfg : Config
  regs : Regs
  cpu : Cpu
  router : Router
  store : Store
deriving DecidableEq, Repr

/-- The quiet part of a state. -/
def State.quiet (s : State) : Quiet where
  cfg := s.cfg
  regs := s.regs
  cpu := s.cpu
  router := s.router
  store := { s.store with vram := [] }

theorem applyInput_quiet (a : InputAction) (s : State) : (applyInput a s).quiet = s.quiet := by
  cases a <;> rfl

theorem runScript_quiet (l : List (Nat × InputAction)) (s : State) :
    (runScript l s).quiet = s.quiet := by
  induction l generalizing s with
  | nil => rfl
  | cons p rest ih =>
    obtain ⟨n, a⟩ := p
    cases n with
    | zero => rw [runScript, ih, applyInput_quiet]
    | succ n => rfl

theorem copyBytes_quiet (n : Nat) (s : State) : (copyBytes n s).quiet = s.quiet := by
  induction n generalizing s with
  | zero => rfl
  | succ n ih =>
    rw [copyBytes]
    split
    · rfl
    · rw [ih]; rfl

theorem timerDmaStep_quiet (s : State) : (timerDmaStep s).quiet = s.quiet := by
  unfold timerDmaStep
  split
  · rfl
  · unfold dmaStep
    split
    · rfl
    · exact (copyBytes_quiet _ _).trans rfl

theorem tickHead_quiet (s : State) : (tickHead s).quiet = s.quiet := by
  unfold tickHead
  rw [timerDmaStep_quiet]
  exact runScript_quiet _ _

theorem endTick_quiet (s : State) : (endTick s).quiet = s.quiet := rfl

theorem awaitCpu_quiet (n : Nat) (s : State) : (awaitCpu n s).quiet = s.quiet := by
  induction n generalizing s with
  | zero => rfl
  | succ n ih =>
    rw [awaitCpu]
    split
    · rw [ih, tickHead_quiet, endTick_quiet]
    · rfl

/-- The rest of a tick, the stalled ticks and the head of the next one leave the quiet part alone. -/
theorem beginTick_quiet (s : State) : (beginTick s).quiet = s.quiet := by
  rw [beginTick, awaitCpu_quiet, tickHead_quiet]

theorem nextCycle_quiet (s : State) : (nextCycle s).quiet = s.quiet := beginTick_quiet _

section fields
variable (s : State)

@[simp] theorem nextCycle_cfg : (nextCycle s).cfg = s.cfg := congrArg Quiet.cfg (nextCycle_quiet s)
@[simp] theorem nextCycle_regs : (nextCycle s).regs = s.regs := congrArg Quiet.regs (nextCycle_quiet s)
@[simp] theorem nextCycle_cpu : (nextCycle s).cpu = s.cpu := congrArg Quiet.cpu (nextCycle_quiet s)
@[simp] theorem nextCycle_router : (nextCycle s).router = s.router :=
  congrArg Quiet.router (nextCycle_quiet s)
@[simp] theorem beginTick_cfg : (beginTick s).cfg = s.cfg := congrArg Quiet.cfg (beginTick_quiet s)
@[simp] theorem beginTick_regs : (beginTick s).regs = s.regs := congrArg Quiet.regs (beginTick_quiet s)
@[simp] theorem beginTick_cpu : (beginTick s).cpu = s.cpu := congrArg Quiet.cpu (beginTick_quiet s)
@[simp] theorem beginTick_router : (beginTick s).router = s.router :=
  congrArg Quiet.router (beginTick_quiet s)
@[simp] theorem endTick_cfg : (endTick s).cfg = s.cfg := rfl
@[simp] theorem endTick_regs : (endTick s).regs = s.regs := rfl
@[simp] theorem endTick_cpu : (endTick s).cpu = s.cpu := rfl
@[simp] theorem endTick_router : (endTick s).router = s.router := rfl
@[simp] theorem endTick_store : (endTick s).store = s.store := rfl

/-- Every region but video RAM is as before. -/
theorem nextCycle_store : { (nextCycle s).store with vram := [] } = { s.store with vram := [] } :=
  congrArg Quiet.store (nextCycle_quiet s)

theorem nextCycle_wram : (nextCycle s).store.wram = s.store.wram := congrArg (fun q => q.store.wram) (nextCycle_quiet s)
theorem nextCycle_hram : (nextCycle s).store.hram = s.store.hram := congrArg (fun q => q.store.hram) (nextCycle_quiet s)
theorem nextCycle_oam : (nextCycle s).store.oam = s.store.oam := congrArg (fun q => q.store.oam) (nextCycle_quiet s)
theorem nextCycle_rom : (nextCycle s).store.rom = s.store.rom := congrArg (fun q => q.store.rom) (nextCycle_quiet s)
theorem nextCycle_extRam : (nextCycle s).store.extRam = s.store.extRam :=
  congrArg (fun q => q.store.extRam) (nextCycle_quiet s)

end fields

/-- With `REV = DMG` no tick is stalled, so the next cycle is the next tick (60_exceptions.md R348). -/
theorem tickHead_stall (s : State) (h : s.cfg.rev = .dmg) : (tickHead s).dma.cpuStall = false := by
  unfold tickHead timerDmaStep
  have : (apuStep (hostPhase s)).cfg = s.cfg := congrArg Quiet.cfg (runScript_quiet _ s)
  rw [this, h]
  rfl

theorem awaitCpu_of_free {n : Nat} {s : State} (h : s.dma.cpuStall = false) : awaitCpu n s = s := by
  cases n with
  | zero => rfl
  | succ n => rw [awaitCpu, h]; rfl

theorem beginTick_dmg (s : State) (h : s.cfg.rev = .dmg) : beginTick s = tickHead s :=
  awaitCpu_of_free (tickHead_stall s h)

end Sys2Proof.Machine
end

