-- ==== Sys2Proof/Laws/State.lean ====
section
/-! SUPPORT. One lemma per field for each updater of State, and for the register file. -/

namespace Sys2Proof.Machine

section withRegs
variable (s : State) (x : Regs)
@[simp] theorem State.withRegs_regs : (s.withRegs x).regs = x := rfl
@[simp] theorem State.withRegs_cpu : (s.withRegs x).cpu = s.cpu := rfl
@[simp] theorem State.withRegs_cfg : (s.withRegs x).cfg = s.cfg := rfl
@[simp] theorem State.withRegs_irq : (s.withRegs x).irq = s.irq := rfl
@[simp] theorem State.withRegs_timer : (s.withRegs x).timer = s.timer := rfl
@[simp] theorem State.withRegs_dma : (s.withRegs x).dma = s.dma := rfl
@[simp] theorem State.withRegs_ppu : (s.withRegs x).ppu = s.ppu := rfl
@[simp] theorem State.withRegs_apu : (s.withRegs x).apu = s.apu := rfl
@[simp] theorem State.withRegs_audio : (s.withRegs x).audio = s.audio := rfl
@[simp] theorem State.withRegs_store : (s.withRegs x).store = s.store := rfl
@[simp] theorem State.withRegs_router : (s.withRegs x).router = s.router := rfl
@[simp] theorem State.withRegs_cart : (s.withRegs x).cart = s.cart := rfl
@[simp] theorem State.withRegs_pad : (s.withRegs x).pad = s.pad := rfl
@[simp] theorem State.withRegs_inputs : (s.withRegs x).inputs = s.inputs := rfl
end withRegs

section withCpu
variable (s : State) (c : Cpu)
@[simp] theorem State.withCpu_regs : (s.withCpu c).regs = s.regs := rfl
@[simp] theorem State.withCpu_cpu : (s.withCpu c).cpu = c := rfl
@[simp] theorem State.withCpu_cfg : (s.withCpu c).cfg = s.cfg := rfl
@[simp] theorem State.withCpu_irq : (s.withCpu c).irq = s.irq := rfl
@[simp] theorem State.withCpu_timer : (s.withCpu c).timer = s.timer := rfl
@[simp] theorem State.withCpu_dma : (s.withCpu c).dma = s.dma := rfl
@[simp] theorem State.withCpu_ppu : (s.withCpu c).ppu = s.ppu := rfl
@[simp] theorem State.withCpu_apu : (s.withCpu c).apu = s.apu := rfl
@[simp] theorem State.withCpu_audio : (s.withCpu c).audio = s.audio := rfl
@[simp] theorem State.withCpu_store : (s.withCpu c).store = s.store := rfl
@[simp] theorem State.withCpu_router : (s.withCpu c).router = s.router := rfl
@[simp] theorem State.withCpu_cart : (s.withCpu c).cart = s.cart := rfl
@[simp] theorem State.withCpu_pad : (s.withCpu c).pad = s.pad := rfl
@[simp] theorem State.withCpu_inputs : (s.withCpu c).inputs = s.inputs := rfl
end withCpu

section setPc
variable (s : State) (v : Word)
@[simp] theorem State.setPc_regs : (s.setPc v).regs = { s.regs with pc := v } := rfl
@[simp] theorem State.setPc_cpu : (s.setPc v).cpu = s.cpu := rfl
@[simp] theorem State.setPc_cfg : (s.setPc v).cfg = s.cfg := rfl
@[simp] theorem State.setPc_irq : (s.setPc v).irq = s.irq := rfl
@[simp] theorem State.setPc_timer : (s.setPc v).timer = s.timer := rfl
@[simp] theorem State.setPc_dma : (s.setPc v).dma = s.dma := rfl
@[simp] theorem State.setPc_ppu : (s.setPc v).ppu = s.ppu := rfl
@[simp] theorem State.setPc_apu : (s.setPc v).apu = s.apu := rfl
@[simp] theorem State.setPc_audio : (s.setPc v).audio = s.audio := rfl
@[simp] theorem State.setPc_store : (s.setPc v).store = s.store := rfl
@[simp] theorem State.setPc_router : (s.setPc v).router = s.router := rfl
@[simp] theorem State.setPc_cart : (s.setPc v).cart = s.cart := rfl
@[simp] theorem State.setPc_pad : (s.setPc v).pad = s.pad := rfl
@[simp] theorem State.setPc_inputs : (s.setPc v).inputs = s.inputs := rfl
end setPc

section setSp
variable (s : State) (v : Word)
@[simp] theorem State.setSp_regs : (s.setSp v).regs = { s.regs with sp := v } := rfl
@[simp] theorem State.setSp_cpu : (s.setSp v).cpu = s.cpu := rfl
@[simp] theorem State.setSp_cfg : (s.setSp v).cfg = s.cfg := rfl
@[simp] theorem State.setSp_irq : (s.setSp v).irq = s.irq := rfl
@[simp] theorem State.setSp_timer : (s.setSp v).timer = s.timer := rfl
@[simp] theorem State.setSp_dma : (s.setSp v).dma = s.dma := rfl
@[simp] theorem State.setSp_ppu : (s.setSp v).ppu = s.ppu := rfl
@[simp] theorem State.setSp_apu : (s.setSp v).apu = s.apu := rfl
@[simp] theorem State.setSp_audio : (s.setSp v).audio = s.audio := rfl
@[simp] theorem State.setSp_store : (s.setSp v).store = s.store := rfl
@[simp] theorem State.setSp_router : (s.setSp v).router = s.router := rfl
@[simp] theorem State.setSp_cart : (s.setSp v).cart = s.cart := rfl
@[simp] theorem State.setSp_pad : (s.setSp v).pad = s.pad := rfl
@[simp] theorem State.setSp_inputs : (s.setSp v).inputs = s.inputs := rfl
end setSp

section setReg
variable (s : State) (r : Reg8) (v : Byte)
@[simp] theorem State.setReg_regs : (s.setReg r v).regs = s.regs.set r v := rfl
@[simp] theorem State.setReg_cpu : (s.setReg r v).cpu = s.cpu := rfl
@[simp] theorem State.setReg_cfg : (s.setReg r v).cfg = s.cfg := rfl
@[simp] theorem State.setReg_irq : (s.setReg r v).irq = s.irq := rfl
@[simp] theorem State.setReg_timer : (s.setReg r v).timer = s.timer := rfl
@[simp] theorem State.setReg_dma : (s.setReg r v).dma = s.dma := rfl
@[simp] theorem State.setReg_ppu : (s.setReg r v).ppu = s.ppu := rfl
@[simp] theorem State.setReg_apu : (s.setReg r v).apu = s.apu := rfl
@[simp] theorem State.setReg_audio : (s.setReg r v).audio = s.audio := rfl
@[simp] theorem State.setReg_store : (s.setReg r v).store = s.store := rfl
@[simp] theorem State.setReg_router : (s.setReg r v).router = s.router := rfl
@[simp] theorem State.setReg_cart : (s.setReg r v).cart = s.cart := rfl
@[simp] theorem State.setReg_pad : (s.setReg r v).pad = s.pad := rfl
@[simp] theorem State.setReg_inputs : (s.setReg r v).inputs = s.inputs := rfl
end setReg

section setHl
variable (s : State) (v : Word)
@[simp] theorem State.setHl_regs : (s.setHl v).regs = s.regs.setPair .hl v := rfl
@[simp] theorem State.setHl_cpu : (s.setHl v).cpu = s.cpu := rfl
@[simp] theorem State.setHl_cfg : (s.setHl v).cfg = s.cfg := rfl
@[simp] theorem State.setHl_irq : (s.setHl v).irq = s.irq := rfl
@[simp] theorem State.setHl_timer : (s.setHl v).timer = s.timer := rfl
@[simp] theorem State.setHl_dma : (s.setHl v).dma = s.dma := rfl
@[simp] theorem State.setHl_ppu : (s.setHl v).ppu = s.ppu := rfl
@[simp] theorem State.setHl_apu : (s.setHl v).apu = s.apu := rfl
@[simp] theorem State.setHl_audio : (s.setHl v).audio = s.audio := rfl
@[simp] theorem State.setHl_store : (s.setHl v).store = s.store := rfl
@[simp] theorem State.setHl_router : (s.setHl v).router = s.router := rfl
@[simp] theorem State.setHl_cart : (s.setHl v).cart = s.cart := rfl
@[simp] theorem State.setHl_pad : (s.setHl v).pad = s.pad := rfl
@[simp] theorem State.setHl_inputs : (s.setHl v).inputs = s.inputs := rfl
end setHl

section withFlags
variable (s : State) (q : Flagged)
@[simp] theorem State.withFlags_regs : (s.withFlags q).regs = s.regs.withFlags q := rfl
@[simp] theorem State.withFlags_cpu : (s.withFlags q).cpu = s.cpu := rfl
@[simp] theorem State.withFlags_cfg : (s.withFlags q).cfg = s.cfg := rfl
@[simp] theorem State.withFlags_irq : (s.withFlags q).irq = s.irq := rfl
@[simp] theorem State.withFlags_timer : (s.withFlags q).timer = s.timer := rfl
@[simp] theorem State.withFlags_dma : (s.withFlags q).dma = s.dma := rfl
@[simp] theorem State.withFlags_ppu : (s.withFlags q).ppu = s.ppu := rfl
@[simp] theorem State.withFlags_apu : (s.withFlags q).apu = s.apu := rfl
@[simp] theorem State.withFlags_audio : (s.withFlags q).audio = s.audio := rfl
@[simp] theorem State.withFlags_store : (s.withFlags q).store = s.store := rfl
@[simp] theorem State.withFlags_router : (s.withFlags q).router = s.router := rfl
@[simp] theorem State.withFlags_cart : (s.withFlags q).cart = s.cart := rfl
@[simp] theorem State.withFlags_pad : (s.withFlags q).pad = s.pad := rfl
@[simp] theorem State.withFlags_inputs : (s.withFlags q).inputs = s.inputs := rfl
end withFlags

section withTmp8
variable (s : State) (v : Byte)
@[simp] theorem State.withTmp8_regs : (s.withTmp8 v).regs = s.regs := rfl
@[simp] theorem State.withTmp8_cpu : (s.withTmp8 v).cpu = { s.cpu with tmp8 := v } := rfl
@[simp] theorem State.withTmp8_cfg : (s.withTmp8 v).cfg = s.cfg := rfl
@[simp] theorem State.withTmp8_irq : (s.withTmp8 v).irq = s.irq := rfl
@[simp] theorem State.withTmp8_timer : (s.withTmp8 v).timer = s.timer := rfl
@[simp] theorem State.withTmp8_dma : (s.withTmp8 v).dma = s.dma := rfl
@[simp] theorem State.withTmp8_ppu : (s.withTmp8 v).ppu = s.ppu := rfl
@[simp] theorem State.withTmp8_apu : (s.withTmp8 v).apu = s.apu := rfl
@[simp] theorem State.withTmp8_audio : (s.withTmp8 v).audio = s.audio := rfl
@[simp] theorem State.withTmp8_store : (s.withTmp8 v).store = s.store := rfl
@[simp] theorem State.withTmp8_router : (s.withTmp8 v).router = s.router := rfl
@[simp] theorem State.withTmp8_cart : (s.withTmp8 v).cart = s.cart := rfl
@[simp] theorem State.withTmp8_pad : (s.withTmp8 v).pad = s.pad := rfl
@[simp] theorem State.withTmp8_inputs : (s.withTmp8 v).inputs = s.inputs := rfl
end withTmp8

section withTmp16
variable (s : State) (v : Word)
@[simp] theorem State.withTmp16_regs : (s.withTmp16 v).regs = s.regs := rfl
@[simp] theorem State.withTmp16_cpu : (s.withTmp16 v).cpu = { s.cpu with tmp16 := v } := rfl
@[simp] theorem State.withTmp16_cfg : (s.withTmp16 v).cfg = s.cfg := rfl
@[simp] theorem State.withTmp16_irq : (s.withTmp16 v).irq = s.irq := rfl
@[simp] theorem State.withTmp16_timer : (s.withTmp16 v).timer = s.timer := rfl
@[simp] theorem State.withTmp16_dma : (s.withTmp16 v).dma = s.dma := rfl
@[simp] theorem State.withTmp16_ppu : (s.withTmp16 v).ppu = s.ppu := rfl
@[simp] theorem State.withTmp16_apu : (s.withTmp16 v).apu = s.apu := rfl
@[simp] theorem State.withTmp16_audio : (s.withTmp16 v).audio = s.audio := rfl
@[simp] theorem State.withTmp16_store : (s.withTmp16 v).store = s.store := rfl
@[simp] theorem State.withTmp16_router : (s.withTmp16 v).router = s.router := rfl
@[simp] theorem State.withTmp16_cart : (s.withTmp16 v).cart = s.cart := rfl
@[simp] theorem State.withTmp16_pad : (s.withTmp16 v).pad = s.pad := rfl
@[simp] theorem State.withTmp16_inputs : (s.withTmp16 v).inputs = s.inputs := rfl
end withTmp16

section withCpuState
variable (s : State) (c : CpuState)
@[simp] theorem State.withCpuState_regs : (s.withCpuState c).regs = s.regs := rfl
@[simp] theorem State.withCpuState_cpu : (s.withCpuState c).cpu = { s.cpu with cpuState := c } := rfl
@[simp] theorem State.withCpuState_cfg : (s.withCpuState c).cfg = s.cfg := rfl
@[simp] theorem State.withCpuState_irq : (s.withCpuState c).irq = s.irq := rfl
@[simp] theorem State.withCpuState_timer : (s.withCpuState c).timer = s.timer := rfl
@[simp] theorem State.withCpuState_dma : (s.withCpuState c).dma = s.dma := rfl
@[simp] theorem State.withCpuState_ppu : (s.withCpuState c).ppu = s.ppu := rfl
@[simp] theorem State.withCpuState_apu : (s.withCpuState c).apu = s.apu := rfl
@[simp] theorem State.withCpuState_audio : (s.withCpuState c).audio = s.audio := rfl
@[simp] theorem State.withCpuState_store : (s.withCpuState c).store = s.store := rfl
@[simp] theorem State.withCpuState_router : (s.withCpuState c).router = s.router := rfl
@[simp] theorem State.withCpuState_cart : (s.withCpuState c).cart = s.cart := rfl
@[simp] theorem State.withCpuState_pad : (s.withCpuState c).pad = s.pad := rfl
@[simp] theorem State.withCpuState_inputs : (s.withCpuState c).inputs = s.inputs := rfl
end withCpuState

section regs
variable (x : Regs) (r : Reg8) (v : Byte) (w : Word)

@[simp] theorem Regs.get_set_same : (x.set r v).get r = v := by cases r <;> rfl

theorem Regs.get_set_other {r r' : Reg8} (h : r' ≠ r) : (x.set r v).get r' = x.get r' := by
  cases r <;> cases r' <;> first | rfl | exact absurd rfl h

@[simp] theorem Regs.set_f : (x.set r v).f = x.f := by cases r <;> rfl
@[simp] theorem Regs.set_sp : (x.set r v).sp = x.sp := by cases r <;> rfl
@[simp] theorem Regs.set_pc : (x.set r v).pc = x.pc := by cases r <;> rfl
@[simp] theorem Regs.setPair_f (p : RegPair) : (x.setPair p w).f = x.f := by cases p <;> rfl
@[simp] theorem Regs.setPair_a (p : RegPair) : (x.setPair p w).a = x.a := by cases p <;> rfl
@[simp] theorem Regs.setPair_pc (p : RegPair) : (x.setPair p w).pc = x.pc := by cases p <;> rfl
@[simp] theorem Regs.setStackPair_pc (p : StackPair) : (x.setStackPair p w).pc = x.pc := by
  cases p <;> rfl
@[simp] theorem Regs.setStackPair_sp (p : StackPair) : (x.setStackPair p w).sp = x.sp := by
  cases p <;> rfl
@[simp] theorem Regs.setF_f : (x.setF v).f = v &&& 0xF0 := rfl

/-- The two halves of a pair make it up again. -/
@[simp] theorem join_high_low : join (highByte w) (lowByte w) = w := by
  unfold join highByte lowByte
  apply BitVec.eq_of_getLsbD_eq
  intro i hi
  rw [BitVec.getLsbD_append]
  by_cases h : i < 8
  · simp [h]
  · simp [h, show i - 8 < 8 by omega, show 8 + (i - 8) = i by omega]

@[simp] theorem lowByte_join (h l : Byte) : lowByte (join h l) = l := by
  unfold join lowByte; exact BitVec.setWidth_append_eq_right

@[simp] theorem highByte_join (h l : Byte) : highByte (join h l) = h := by
  unfold join highByte
  apply BitVec.eq_of_getLsbD_eq
  intro i hi
  rw [BitVec.getLsbD_setWidth, BitVec.getLsbD_ushiftRight, BitVec.getLsbD_append]
  simp [hi]

/-- A register pair holds what was written to it. -/
@[simp] theorem Regs.getPair_setPair (p : RegPair) : (x.setPair p w).getPair p = w := by
  cases p <;> simp [Regs.setPair, Regs.getPair, Regs.hl]

/-- A flags byte has a low nibble of 0 (10_state.md R13). -/
theorem flagsByte_low (z n h c : Bool) : flagsByte z n h c &&& 0x0F = 0 := by
  cases z <;> cases n <;> cases h <;> cases c <;> rfl

theorem flagsByte_bits (z n h c : Bool) :
    bit (flagsByte z n h c) 7 = z ∧ bit (flagsByte z n h c) 6 = n ∧ bit (flagsByte z n h c) 5 = h
      ∧ bit (flagsByte z n h c) 4 = c := by
  cases z <;> cases n <;> cases h <;> cases c <;> decide

end regs

end Sys2Proof.Machine
end

