-- ==== Sys2Proof/Laws/Router.lean ====
section
/-! SUPPORT. What a write through the Router can do: it leaves the registers, the parameters and the images
alone, and a byte of RAM that was written is the byte read. -/

namespace Sys2Proof.Machine

/-- What no Router write changes: the parameters, the registers, the host's inputs, the images, and the
control state but for the speed-switch arming bit. -/
structure Untouched where
  cfg : Config
  regs : Regs
  cpu : Cpu
  rom : Memory
  bootRom : Memory
  inputs : Inputs

/-- The part of a state that no Router write changes. -/
def State.untouched (s : State) : Untouched where
  cfg := s.cfg
  regs := s.regs
  cpu := { s.cpu with speedArmed := false }
  rom := s.store.rom
  bootRom := s.store.bootRom
  inputs := s.inputs

theorem oamCopy_untouched (src : Word) (n i : Nat) (s : State) :
    (oamCopy src n i s).untouched = s.untouched := by
  induction n generalizing i s with
  | zero => rfl
  | succ n ih => rw [oamCopy, ih]; rfl

theorem writeDma_untouched (s : State) (v : Byte) : (writeDma s v).untouched = s.untouched := by
  rw [writeDma, oamCopy_untouched]; rfl

theorem writeLcdc_untouched (s : State) (v : Byte) : (writeLcdc s v).untouched = s.untouched := by
  unfold writeLcdc; dsimp only; split
  · rfl
  · split <;> rfl

theorem writePpu_untouched (s : State) (off : Nat) (v : Byte) :
    (writePpu s off v).untouched = s.untouched := by
  unfold writePpu
  split <;> first | rfl | exact writeLcdc_untouched s v

theorem writeCgb_untouched (s : State) (off : Nat) (v : Byte) :
    (writeCgb s off v).untouched = s.untouched := by
  unfold writeCgb
  split <;> first | rfl | (split <;> rfl)

theorem writeLow_untouched (s : State) (off : Nat) (v : Byte) :
    (writeLow s off v).untouched = s.untouched := by
  unfold writeLow
  split <;> rfl

theorem writeIo_untouched (s : State) (off : Nat) (v : Byte) :
    (writeIo s off v).untouched = s.untouched := by
  unfold writeIo
  split
  · exact writeLow_untouched s off v
  · split
    · rfl
    · split
      · exact writeDma_untouched s v
      · split
        · exact writePpu_untouched s off v
        · split
          · rfl
          · split
            · rfl
            · exact writeCgb_untouched s off v

/-- A Router write changes neither a register, a parameter, an image, an input nor, but for
`speed_armed`, the processor's control state. -/
theorem memWrite_untouched (s : State) (a : Word) (v : Byte) :
    (memWrite s a v).untouched = s.untouched := by
  unfold memWrite writeHandler
  split <;> first | rfl | exact writeIo_untouched s _ v | (split <;> rfl)

section fields
variable (s : State) (a : Word) (v : Byte)
@[simp] theorem memWrite_regs : (memWrite s a v).regs = s.regs :=
  congrArg Untouched.regs (memWrite_untouched s a v)
@[simp] theorem memWrite_cfg : (memWrite s a v).cfg = s.cfg :=
  congrArg Untouched.cfg (memWrite_untouched s a v)
@[simp] theorem memWrite_rom : (memWrite s a v).store.rom = s.store.rom :=
  congrArg Untouched.rom (memWrite_untouched s a v)
@[simp] theorem memWrite_bootRom : (memWrite s a v).store.bootRom = s.store.bootRom :=
  congrArg Untouched.bootRom (memWrite_untouched s a v)
@[simp] theorem memWrite_inputs : (memWrite s a v).inputs = s.inputs :=
  congrArg Untouched.inputs (memWrite_untouched s a v)
@[simp] theorem memWrite_tmp8 : (memWrite s a v).cpu.tmp8 = s.cpu.tmp8 :=
  congrArg (fun q => q.cpu.tmp8) (memWrite_untouched s a v)
@[simp] theorem memWrite_tmp16 : (memWrite s a v).cpu.tmp16 = s.cpu.tmp16 :=
  congrArg (fun q => q.cpu.tmp16) (memWrite_untouched s a v)
@[simp] theorem memWrite_ime : (memWrite s a v).cpu.ime = s.cpu.ime :=
  congrArg (fun q => q.cpu.ime) (memWrite_untouched s a v)
@[simp] theorem memWrite_imePending : (memWrite s a v).cpu.imePending = s.cpu.imePending :=
  congrArg (fun q => q.cpu.imePending) (memWrite_untouched s a v)
@[simp] theorem memWrite_cpuState : (memWrite s a v).cpu.cpuState = s.cpu.cpuState :=
  congrArg (fun q => q.cpu.cpuState) (memWrite_untouched s a v)
@[simp] theorem memWrite_cpuFault : (memWrite s a v).cpu.cpuFault = s.cpu.cpuFault :=
  congrArg (fun q => q.cpu.cpuFault) (memWrite_untouched s a v)
@[simp] theorem memWrite_haltBug : (memWrite s a v).cpu.haltBug = s.cpu.haltBug :=
  congrArg (fun q => q.cpu.haltBug) (memWrite_untouched s a v)
@[simp] theorem memWrite_doubleSpeed : (memWrite s a v).cpu.doubleSpeed = s.cpu.doubleSpeed :=
  congrArg (fun q => q.cpu.doubleSpeed) (memWrite_untouched s a v)
end fields

section workRam
variable {s : State} {a : Word} {v : Byte} {i : Nat}

theorem memWrite_wram (h : handler s a = .wram i) : memWrite s a v = writeWram s i v := by
  unfold memWrite writeHandler; rw [h]

theorem memWrite_hram (h : handler s a = .hram i) : memWrite s a v = writeHram s i v := by
  unfold memWrite writeHandler; rw [h]

theorem memWrite_extRam (h : handler s a = .extRam i) : memWrite s a v = writeExtRam s i v := by
  unfold memWrite writeHandler; rw [h]

/-- The map does not depend on what a storage region holds. -/
theorem handler_store (s : State) (x : Store) (b : Word) :
    handler { s with store := x } b = handler s b := rfl

/-- A byte of work RAM that was written is read back. -/
theorem memRead_write_wram (hm : s.store.wram.wf = true) (h : handler s a = .wram i) :
    memRead (memWrite s a v) a = v := by
  rw [memWrite_wram h]
  unfold memRead writeWram
  rw [handler_store, h]
  exact cellRead_write_same i v hm

/-- A byte of high RAM that was written is read back. -/
theorem memRead_write_hram (hm : s.store.hram.wf = true) (h : handler s a = .hram i) :
    memRead (memWrite s a v) a = v := by
  rw [memWrite_hram h]
  unfold memRead writeHram
  rw [handler_store, h]
  exact cellRead_write_same i v hm

end workRam

end Sys2Proof.Machine
end

