-- ==== Sys2Proof/Laws/Canonical.lean ====
section
/-! SUPPORT. Every operation on memory keeps the canonical form of every region. -/

namespace Sys2Proof.Machine

/-- The canonical form, region by region. -/
structure MemWf (s : State) : Prop where
  rom : s.store.rom.wf = true
  bootRom : s.store.bootRom.wf = true
  vram : s.store.vram.wf = true
  extRam : s.store.extRam.wf = true
  wram : s.store.wram.wf = true
  oam : s.store.oam.wf = true
  hram : s.store.hram.wf = true
  wave : s.apu.ch3.ram.wf = true
  bgPal : s.ppu.bgPal.wf = true
  objPal : s.ppu.objPal.wf = true
  frame : cellsWf s.ppu.framebuffer = true

theorem memWf_iff (s : State) : s.memWf = true ↔ MemWf s := by
  unfold State.memWf
  simp only [Bool.and_eq_true]
  constructor
  · rintro ⟨⟨⟨⟨⟨⟨⟨⟨⟨⟨h1, h2⟩, h3⟩, h4⟩, h5⟩, h6⟩, h7⟩, h8⟩, h9⟩, h10⟩, h11⟩
    exact ⟨h1, h2, h3, h4, h5, h6, h7, h8, h9, h10, h11⟩
  · rintro ⟨h1, h2, h3, h4, h5, h6, h7, h8, h9, h10, h11⟩
    exact ⟨⟨⟨⟨⟨⟨⟨⟨⟨⟨h1, h2⟩, h3⟩, h4⟩, h5⟩, h6⟩, h7⟩, h8⟩, h9⟩, h10⟩, h11⟩

/-- The canonical form depends on the regions only. -/
theorem MemWf.of_eq {s t : State} (h : MemWf s) (hs : t.store = s.store)
    (ha : t.apu.ch3.ram = s.apu.ch3.ram) (hb : t.ppu.bgPal = s.ppu.bgPal)
    (ho : t.ppu.objPal = s.ppu.objPal) (hf : t.ppu.framebuffer = s.ppu.framebuffer) : MemWf t := by
  refine ⟨?_, ?_, ?_, ?_, ?_, ?_, ?_, ?_, ?_, ?_, ?_⟩ <;> simp only [hs, ha, hb, ho, hf] <;>
    first
      | exact h.rom | exact h.bootRom | exact h.vram | exact h.extRam | exact h.wram
      | exact h.oam | exact h.hram | exact h.wave | exact h.bgPal | exact h.objPal | exact h.frame

theorem writeOam_wf {s : State} (h : MemWf s) (i : Nat) (v : Byte) : MemWf (writeOam s i v) :=
  { h with oam := cellsWf_write i v h.oam }

theorem writeVram_wf {s : State} (h : MemWf s) (i : Nat) (v : Byte) : MemWf (writeVram s i v) :=
  { h with vram := cellsWf_write i v h.vram }

theorem writeExtRam_wf {s : State} (h : MemWf s) (i : Nat) (v : Byte) : MemWf (writeExtRam s i v) :=
  { h with extRam := cellsWf_write i v h.extRam }

theorem writeWram_wf {s : State} (h : MemWf s) (i : Nat) (v : Byte) : MemWf (writeWram s i v) :=
  { h with wram := cellsWf_write i v h.wram }

theorem writeHram_wf {s : State} (h : MemWf s) (i : Nat) (v : Byte) : MemWf (writeHram s i v) :=
  { h with hram := cellsWf_write i v h.hram }

theorem oamCopy_wf (src : Word) (n i : Nat) {s : State} (h : MemWf s) : MemWf (oamCopy src n i s) := by
  induction n generalizing i s with
  | zero => exact h
  | succ n ih => exact ih _ (writeOam_wf h _ _)

/-- The regions a PPU run works on: the palettes stay, the framebuffer keeps its form. -/
structure SamePalettes (p q : Ppu) : Prop where
  bg : q.bgPal = p.bgPal
  obj : q.objPal = p.objPal
  frame : cellsWf p.framebuffer = true → cellsWf q.framebuffer = true

theorem SamePalettes.refl (p : Ppu) : SamePalettes p p := ⟨rfl, rfl, id⟩

theorem SamePalettes.trans {p q r : Ppu} (h : SamePalettes p q) (h' : SamePalettes q r) :
    SamePalettes p r :=
  ⟨h'.bg.trans h.bg, h'.obj.trans h.obj, fun w => h'.frame (h.frame w)⟩

theorem lineCompare_pal (r : PpuRun) (v : Byte) : SamePalettes r.ppu (r.lineCompare v).ppu :=
  ⟨rfl, rfl, id⟩

theorem enterSearch_pal (r : PpuRun) (oam : Memory) : SamePalettes r.ppu (r.enterSearch oam).ppu :=
  ⟨rfl, rfl, id⟩

theorem startLine_pal (cfg : Config) (r : PpuRun) (oam : Memory) : SamePalettes r.ppu (r.startLine cfg oam).ppu := by
  have h1 : SamePalettes r.ppu (if r.ppu.ly ≠ 0 then r.lineCompare r.ppu.ly else r).ppu := by
    split
    · exact lineCompare_pal r _
    · exact .refl _
  unfold PpuRun.startLine
  dsimp only
  split
  · exact h1.trans ⟨rfl, rfl, id⟩
  · split
    · exact h1.trans ⟨rfl, rfl, id⟩
    · exact h1

theorem startLine_pal_of {p : Ppu} {r : PpuRun} (cfg : Config) (oam : Memory) (h : SamePalettes p r.ppu) :
    SamePalettes p (r.startLine cfg oam).ppu :=
  h.trans (startLine_pal cfg r oam)

theorem drawDot_pal (rev : Revision) (vram oam : Memory) (p : Ppu) :
    SamePalettes p (p.drawDot rev vram oam) := by
  unfold Ppu.drawDot
  split
  · exact ⟨rfl, rfl, fun w => cellsWf_write _ _ w⟩
  · exact .refl _

theorem visibleEntries_pal (cfg : Config) (r : PpuRun) : SamePalettes r.ppu (r.visibleEntries cfg).ppu := by
  have h1 : SamePalettes r.ppu (if r.ppu.dot = cfg.ppuD1 then r.enterTransfer else r).ppu := by
    split
    · exact ⟨rfl, rfl, id⟩
    · exact .refl _
  unfold PpuRun.visibleEntries
  dsimp only
  split
  · split
    · exact h1.trans ⟨rfl, rfl, id⟩
    · exact h1
  · exact .refl _

theorem lastLine_pal (cfg : Config) (r : PpuRun) : SamePalettes r.ppu (r.lastLine cfg).ppu := by
  unfold PpuRun.lastLine
  split
  · exact lineCompare_pal r _
  · exact .refl _

theorem endLine_pal (cfg : Config) (r : PpuRun) (oam : Memory) : SamePalettes r.ppu (r.endLine cfg oam).ppu := by
  unfold PpuRun.endLine
  split
  · exact startLine_pal_of cfg oam ⟨rfl, rfl, id⟩
  · exact .refl _

theorem dot_pal (cfg : Config) (vram oam : Memory) (r : PpuRun) :
    SamePalettes r.ppu (r.dot cfg vram oam).ppu := by
  unfold PpuRun.dot
  dsimp only
  refine (drawDot_pal cfg.rev vram oam r.ppu).trans ?_
  refine SamePalettes.trans ?_ (endLine_pal cfg _ oam)
  refine SamePalettes.trans ?_ (lastLine_pal cfg _)
  refine SamePalettes.trans ?_ (visibleEntries_pal cfg _)
  exact ⟨rfl, rfl, id⟩

theorem dots_pal (cfg : Config) (vram oam : Memory) (n : Nat) (r : PpuRun) :
    SamePalettes r.ppu (PpuRun.dots cfg vram oam n r).ppu := by
  induction n generalizing r with
  | zero => exact .refl _
  | succ n ih => exact (dot_pal cfg vram oam r).trans (ih _)

theorem applyPpu_wf {s : State} (h : MemWf s) {r : PpuRun} (hr : SamePalettes s.ppu r.ppu) :
    MemWf (applyPpu s r) :=
  { h with
    bgPal := by show r.ppu.bgPal.wf = true; rw [hr.bg]; exact h.bgPal
    objPal := by show r.ppu.objPal.wf = true; rw [hr.obj]; exact h.objPal
    frame := hr.frame h.frame }

theorem ppuStep_wf {s : State} (h : MemWf s) : MemWf (ppuStep s) := by
  refine applyPpu_wf h ?_
  unfold ppuRun
  split
  · exact dots_pal _ _ _ _ (PpuRun.of s.ppu)
  · exact .refl _

theorem writeLcdc_wf {s : State} (h : MemWf s) (v : Byte) : MemWf (writeLcdc s v) := by
  unfold writeLcdc
  dsimp only
  split
  · exact h.of_eq rfl rfl rfl rfl rfl
  · split
    · exact applyPpu_wf h (startLine_pal_of _ _ ⟨rfl, rfl, id⟩)
    · exact h.of_eq rfl rfl rfl rfl rfl

theorem writePpu_wf {s : State} (h : MemWf s) (off : Nat) (v : Byte) : MemWf (writePpu s off v) := by
  unfold writePpu
  split <;> first | exact writeLcdc_wf h v | exact h.of_eq rfl rfl rfl rfl rfl

theorem writePalette_wf {s : State} (h : MemWf s) (off : Nat) (v : Byte) :
    MemWf { s with ppu := writePalette s.ppu off v } := by
  unfold writePalette
  split
  · exact h.of_eq rfl rfl rfl rfl rfl
  · exact { h with bgPal := cellsWf_write _ _ h.bgPal }
  · exact h.of_eq rfl rfl rfl rfl rfl
  · exact { h with objPal := cellsWf_write _ _ h.objPal }
  · exact h

theorem writeCgb_wf {s : State} (h : MemWf s) (off : Nat) (v : Byte) : MemWf (writeCgb s off v) := by
  unfold writeCgb
  split
  · exact h.of_eq rfl rfl rfl rfl rfl
  · exact h.of_eq rfl rfl rfl rfl rfl
  · exact h.of_eq rfl rfl rfl rfl rfl
  · split
    · exact h.of_eq rfl rfl rfl rfl rfl
    · exact writePalette_wf h off v

theorem writeLow_wf {s : State} (h : MemWf s) (off : Nat) (v : Byte) : MemWf (writeLow s off v) := by
  unfold writeLow
  split <;> exact h.of_eq rfl rfl rfl rfl rfl

theorem apuWrite_ram {p : Apu} (h : p.ch3.ram.wf = true) (cfg : Config) (off : Nat) (v : Byte) :
    (p.write cfg off v).ch3.ram.wf = true := by
  unfold Apu.write
  split
  · exact cellsWf_write _ _ h
  · split
    · unfold Apu.writeMaster Apu.turnOff Apu.turnOn Wave.wipe
      split
      · dsimp only
        split
        · exact h
        · rfl
      · split <;> exact h
    · split
      · unfold Apu.writeOff
        split
        · exact h
        · split <;> exact h
      · split
        · unfold Apu.writePulse
          split <;> first | exact h | skip
          · unfold Apu.writeControl1 Apu.trigger1
            dsimp only
            split
            · split <;> exact h
            · exact h
        · unfold Apu.writeUpper
          split <;> first | exact h | skip
          · unfold Wave.writeControl
            dsimp only
            split <;> exact h

theorem writeApu_wf {s : State} (h : MemWf s) (off : Nat) (v : Byte) : MemWf (writeApu s off v) :=
  { h with wave := apuWrite_ram h.wave s.cfg off v }

theorem writeIo_wf {s : State} (h : MemWf s) (off : Nat) (v : Byte) : MemWf (writeIo s off v) := by
  unfold writeIo
  split
  · exact writeLow_wf h off v
  · split
    · exact writeApu_wf h off v
    · split
      · exact oamCopy_wf _ _ _ (h.of_eq rfl rfl rfl rfl rfl)
      · split
        · exact writePpu_wf h off v
        · split
          · exact h.of_eq rfl rfl rfl rfl rfl
          · split
            · exact h
            · exact writeCgb_wf h off v

/-- A write through the Router keeps the canonical form. -/
theorem memWrite_wf {s : State} (h : MemWf s) (a : Word) (v : Byte) : MemWf (memWrite s a v) := by
  unfold memWrite writeHandler
  split
  · exact h.of_eq rfl rfl rfl rfl rfl
  · exact h.of_eq rfl rfl rfl rfl rfl
  · split
    · exact h
    · exact writeVram_wf h _ v
  · exact writeExtRam_wf h _ v
  · exact h.of_eq rfl rfl rfl rfl rfl
  · exact writeWram_wf h _ v
  · split
    · exact h
    · exact writeOam_wf h _ v
  · exact h
  · exact writeIo_wf h _ v
  · exact writeHram_wf h _ v
  · exact h.of_eq rfl rfl rfl rfl rfl

/-- Placing a byte from outside keeps the canonical form. -/
theorem poke_wf {s : State} (h : MemWf s) (a : Word) (v : Byte) : MemWf (poke s a v) := by
  unfold poke
  split
  · exact { h with bootRom := cellsWf_write _ _ h.bootRom }
  · exact { h with rom := cellsWf_write _ _ h.rom }
  · exact writeVram_wf h _ v
  · exact writeExtRam_wf h _ v
  · exact h
  · exact writeWram_wf h _ v
  · exact writeOam_wf h _ v
  · exact h
  · exact h
  · exact writeHram_wf h _ v
  · exact h

theorem times_ram (n : Nat) (c : Wave) : (times Wave.period1 n c).ram = c.ram := by
  induction n generalizing c with
  | zero => rfl
  | succ n ih => rw [times, ih]; unfold Wave.period1; split <;> rfl

theorem clockSequencer_ram (p : Apu) : p.clockSequencer.ch3.ram = p.ch3.ram := by
  have hs : ∀ q : Apu, q.clockSweep.ch3 = q.ch3 := by
    intro q
    unfold Apu.clockSweep
    dsimp only
    split
    · split
      · split <;> rfl
      · rfl
    · rfl
  unfold Apu.clockSequencer
  dsimp only
  split <;> first | rfl | (rw [hs]; rfl)

theorem apuStep_ram (period n : Nat) (p : Apu) : (p.step period n).ch3.ram = p.ch3.ram := by
  unfold Apu.step
  split
  · unfold Apu.stepSequencer
    dsimp only
    split
    · rw [clockSequencer_ram]; exact times_ram n p.ch3
    · exact times_ram n p.ch3
  · rfl

theorem hostPhase_wf {s : State} (h : MemWf s) : MemWf (hostPhase s) := by
  unfold hostPhase
  generalize s.inputs.script = l
  induction l generalizing s with
  | nil => exact h.of_eq rfl rfl rfl rfl rfl
  | cons p rest ih =>
    obtain ⟨n, a⟩ := p
    cases n with
    | zero => exact ih (by cases a <;> exact h.of_eq rfl rfl rfl rfl rfl)
    | succ n => exact h.of_eq rfl rfl rfl rfl rfl

theorem copyBytes_wf (n : Nat) {s : State} (h : MemWf s) : MemWf (copyBytes n s) := by
  induction n generalizing s with
  | zero => exact h
  | succ n ih =>
    rw [copyBytes]
    split
    · exact h
    · exact ih ((writeVram_wf h _ _).of_eq rfl rfl rfl rfl rfl)

theorem timerDmaStep_wf {s : State} (h : MemWf s) : MemWf (timerDmaStep s) := by
  unfold timerDmaStep dmaStep
  split
  · exact h.of_eq rfl rfl rfl rfl rfl
  · split
    · exact h.of_eq rfl rfl rfl rfl rfl
    · exact (copyBytes_wf _ (h.of_eq rfl rfl rfl rfl rfl : MemWf (timerStep s))).of_eq rfl rfl rfl rfl rfl

/-- The head of a tick keeps the canonical form. -/
theorem tickHead_wf {s : State} (h : MemWf s) : MemWf (tickHead s) :=
  timerDmaStep_wf ((hostPhase_wf h).of_eq rfl (apuStep_ram _ _ _) rfl rfl rfl)

/-- The end of a tick keeps the canonical form. -/
theorem endTick_wf {s : State} (h : MemWf s) : MemWf (endTick s) := ppuStep_wf h

theorem awaitCpu_wf (n : Nat) {s : State} (h : MemWf s) : MemWf (awaitCpu n s) := by
  induction n generalizing s with
  | zero => exact h
  | succ n ih =>
    rw [awaitCpu]
    split
    · exact ih (tickHead_wf (endTick_wf h))
    · exact h

theorem beginTick_wf {s : State} (h : MemWf s) : MemWf (beginTick s) := awaitCpu_wf _ (tickHead_wf h)

/-- The passage from one machine cycle of the processor to the next keeps the canonical form. -/
theorem nextCycle_wf {s : State} (h : MemWf s) : MemWf (nextCycle s) := beginTick_wf (endTick_wf h)

end Sys2Proof.Machine
end

