-- ==== Sys2Proof/Laws/Commute.lean ====
section
/-! SUPPORT. The other blocks read nothing of the processor but its speed bits: the passage of a machine cycle
commutes with a change of the register file and of the control state. -/

namespace Sys2Proof.Machine

/-- The machine with its register file and control state replaced. -/
def State.withProc (s : State) (x : Regs) (c : Cpu) : State := { s with regs := x, cpu := c }

/-- Two control states with the same speed bits. -/
structure SameSpeed (c d : Cpu) : Prop where
  speed : c.doubleSpeed = d.doubleSpeed
  armed : c.speedArmed = d.speedArmed

section
variable {x : Regs} {c : Cpu}

theorem memRead_withProc {s : State} (h : SameSpeed c s.cpu) (a : Word) :
    memRead (s.withProc x c) a = memRead s a := by
  have hk : readKey1 c = readKey1 s.cpu := by unfold readKey1; rw [h.speed, h.armed]
  have hg : ∀ off, readCgb (s.withProc x c) off = readCgb s off := by
    intro off
    unfold readCgb
    split
    · exact hk
    · rfl
    · rfl
    · rfl
    · rfl
  have hi : ∀ off, readIo (s.withProc x c) off = readIo s off := by
    intro off
    unfold readIo
    rw [hg off]
    rfl
  unfold memRead
  rw [show handler (s.withProc x c) a = handler s a from rfl]
  generalize handler s a = q
  cases q <;> first | rfl | exact hi _

theorem runScript_withProc (l : List (Nat × InputAction)) (s : State) :
    runScript l (s.withProc x c) = (runScript l s).withProc x c := by
  induction l generalizing s with
  | nil => rfl
  | cons p rest ih =>
    obtain ⟨n, a⟩ := p
    cases n with
    | zero =>
      rw [runScript, runScript, ← ih]
      cases a <;> rfl
    | succ n => rfl

theorem copyBytes_withProc (n : Nat) {s : State} (h : SameSpeed c s.cpu) :
    copyBytes n (s.withProc x c) = (copyBytes n s).withProc x c := by
  induction n generalizing s with
  | zero => rfl
  | succ n ih =>
    have hb : copyByte (s.withProc x c) = (copyByte s).withProc x c := by
      unfold copyByte
      rw [show (s.withProc x c).dma = s.dma from rfl, memRead_withProc h]
      rfl
    rw [copyBytes, copyBytes, hb, ih (s := copyByte s) h]
    by_cases hz : s.dma.hdmaBlockLeft = 0
    · rw [if_pos hz, if_pos (show (s.withProc x c).dma.hdmaBlockLeft = 0 from hz)]
    · rw [if_neg hz, if_neg (show ¬ (s.withProc x c).dma.hdmaBlockLeft = 0 from hz)]

theorem timerDmaStep_withProc {s : State} (h : SameSpeed c s.cpu) :
    timerDmaStep (s.withProc x c) = (timerDmaStep s).withProc x c := by
  have ht : timerStep (s.withProc x c) = (timerStep s).withProc x c := rfl
  have hc : copyBytes (timerStep s).cfg.hdmaBytesPerCycle ((timerStep s).withProc x c)
      = (copyBytes (timerStep s).cfg.hdmaBytesPerCycle (timerStep s)).withProc x c := copyBytes_withProc _ h
  unfold timerDmaStep
  rw [show (s.withProc x c).cfg = s.cfg from rfl, ht]
  split
  · rfl
  · unfold dmaStep
    rw [show ((timerStep s).withProc x c).cfg = (timerStep s).cfg from rfl, hc,
      show ((timerStep s).withProc x c).dma = (timerStep s).dma from rfl]
    split <;> rfl

theorem apuStep_withProc {s : State} (h : SameSpeed c s.cpu) :
    apuStep (s.withProc x c) = (apuStep s).withProc x c := by
  unfold apuStep
  rw [show (s.withProc x c).cpu = c from rfl, show (s.withProc x c).cfg = s.cfg from rfl,
    show periodsPerTick s.cfg c = periodsPerTick s.cfg s.cpu by unfold periodsPerTick; rw [h.speed]]
  rfl

theorem runScript_cpu (l : List (Nat × InputAction)) (s : State) : (runScript l s).cpu = s.cpu :=
  congrArg Quiet.cpu (runScript_quiet l s)

theorem tickHead_cpu (s : State) : (tickHead s).cpu = s.cpu :=
  congrArg Quiet.cpu (tickHead_quiet s)

theorem tickHead_withProc {s : State} (h : SameSpeed c s.cpu) :
    tickHead (s.withProc x c) = (tickHead s).withProc x c := by
  have hp : hostPhase (s.withProc x c) = (hostPhase s).withProc x c := runScript_withProc _ _
  have h1 : SameSpeed c (hostPhase s).cpu := by
    unfold hostPhase; rw [runScript_cpu]; exact h
  unfold tickHead
  rw [hp, apuStep_withProc h1]
  exact timerDmaStep_withProc h1

theorem endTick_withProc {s : State} (h : SameSpeed c s.cpu) :
    endTick (s.withProc x c) = (endTick s).withProc x c := by
  have : ppuRun (s.withProc x c) = ppuRun s := by
    unfold ppuRun
    rw [show (s.withProc x c).cpu = c from rfl, show (s.withProc x c).cfg = s.cfg from rfl,
      show periodsPerTick s.cfg c = periodsPerTick s.cfg s.cpu by unfold periodsPerTick; rw [h.speed]]
    rfl
  unfold endTick ppuStep
  rw [this]
  rfl

theorem awaitCpu_withProc (n : Nat) {s : State} (h : SameSpeed c s.cpu) :
    awaitCpu n (s.withProc x c) = (awaitCpu n s).withProc x c := by
  induction n generalizing s with
  | zero => rfl
  | succ n ih =>
    rw [awaitCpu, awaitCpu]
    rw [show (s.withProc x c).dma = s.dma from rfl]
    split
    · rw [endTick_withProc h, tickHead_withProc (s := endTick s) h]
      exact ih (by rw [tickHead_cpu]; exact h)
    · rfl

theorem beginTick_withProc {s : State} (h : SameSpeed c s.cpu) :
    beginTick (s.withProc x c) = (beginTick s).withProc x c := by
  unfold beginTick
  rw [tickHead_withProc h]
  exact awaitCpu_withProc _ (by rw [tickHead_cpu]; exact h)

/-- A machine cycle of the other blocks commutes with a change of the processor's registers. -/
theorem nextCycle_withProc {s : State} (h : SameSpeed c s.cpu) :
    nextCycle (s.withProc x c) = (nextCycle s).withProc x c := by
  unfold nextCycle
  rw [endTick_withProc h]
  exact beginTick_withProc (s := endTick s) h

end

theorem nextCycle_withRegs (s : State) (x : Regs) :
    nextCycle (s.withRegs x) = (nextCycle s).withRegs x := by
  have := nextCycle_withProc (s := s) (x := x) (c := s.cpu) ⟨rfl, rfl⟩
  have e : (nextCycle s).withProc x s.cpu = (nextCycle s).withRegs x := by
    conv_rhs => rw [show (nextCycle s).withRegs x = (nextCycle s).withProc x (nextCycle s).cpu from rfl]
    rw [nextCycle_cpu]
  exact this.trans e

theorem nextCycle_withCpu {s : State} {c : Cpu} (h : SameSpeed c s.cpu) :
    nextCycle (s.withCpu c) = (nextCycle s).withCpu c := by
  have := nextCycle_withProc (s := s) (x := s.regs) (c := c) h
  have e : (nextCycle s).withProc s.regs c = (nextCycle s).withCpu c := by
    conv_rhs => rw [show (nextCycle s).withCpu c = (nextCycle s).withProc (nextCycle s).regs c from rfl]
    rw [nextCycle_regs]
  exact this.trans e

@[simp] theorem nextCycle_withTmp8 (s : State) (v : Byte) :
    nextCycle (s.withTmp8 v) = (nextCycle s).withTmp8 v := by
  refine (nextCycle_withCpu (s := s) (c := { s.cpu with tmp8 := v }) ⟨rfl, rfl⟩).trans ?_
  unfold State.withTmp8
  rw [nextCycle_cpu]

@[simp] theorem nextCycle_withTmp16 (s : State) (v : Word) :
    nextCycle (s.withTmp16 v) = (nextCycle s).withTmp16 v := by
  refine (nextCycle_withCpu (s := s) (c := { s.cpu with tmp16 := v }) ⟨rfl, rfl⟩).trans ?_
  unfold State.withTmp16
  rw [nextCycle_cpu]

@[simp] theorem nextCycle_setSp (s : State) (v : Word) :
    nextCycle (s.setSp v) = (nextCycle s).setSp v := by
  unfold State.setSp
  rw [nextCycle_withRegs, nextCycle_regs]

@[simp] theorem nextCycle_setPc (s : State) (v : Word) :
    nextCycle (s.setPc v) = (nextCycle s).setPc v := by
  unfold State.setPc
  rw [nextCycle_withRegs, nextCycle_regs]

@[simp] theorem memRead_withRegs (s : State) (x : Regs) (a : Word) :
    memRead (s.withRegs x) a = memRead s a :=
  memRead_withProc (s := s) (x := x) (c := s.cpu) ⟨rfl, rfl⟩ a

@[simp] theorem memRead_withTmp8 (s : State) (v : Byte) (a : Word) :
    memRead (s.withTmp8 v) a = memRead s a :=
  memRead_withProc (s := s) (x := s.regs) (c := { s.cpu with tmp8 := v }) ⟨rfl, rfl⟩ a

@[simp] theorem memRead_withTmp16 (s : State) (v : Word) (a : Word) :
    memRead (s.withTmp16 v) a = memRead s a :=
  memRead_withProc (s := s) (x := s.regs) (c := { s.cpu with tmp16 := v }) ⟨rfl, rfl⟩ a

@[simp] theorem memRead_setSp (s : State) (v : Word) (a : Word) :
    memRead (s.setSp v) a = memRead s a := memRead_withRegs s _ a

@[simp] theorem memRead_setPc (s : State) (v : Word) (a : Word) :
    memRead (s.setPc v) a = memRead s a := memRead_withRegs s _ a

end Sys2Proof.Machine
end

