-- ==== Sys2Proof/Laws/Form.lean ====
section
/-! SUPPORT. Every arm of exec runs the sequence that the fields of its opcode select. -/

namespace Sys2Proof.Machine

theorem next_of_word {nn : Word} (f : Word → State) :
    Host.Outcome.next (φ := Fault) (ρ := Refusal) (f nn) = .next (f (join (highByte nn) (lowByte nn))) := by
  rw [join_high_low]

/-- Every instruction but the prefix and the undefined opcodes runs its form's sequence on its operands. -/
theorem exec_form (i : Instr) (s : State) (hp : i.form ≠ .prefixCb) (hu : i.form ≠ .undefined) :
    exec i s = .next (runSeq (formSeq i.form) (operands i s)) := by
  cases i
  case undefined op => exact absurd rfl hu
  case prefix_CB => exact absurd rfl hp
  case ld_BC_nn | ld_mnn_SP | ld_DE_nn | ld_HL_nn | ld_SP_nn | jp_NZ_nn | jp_nn | call_NZ_nn |
    jp_Z_nn | call_Z_nn | call_nn | jp_NC_nn | call_NC_nn | jp_C_nn | call_C_nn | ld_mnn_A |
    ld_A_mnn nn =>
    exact next_of_word (fun w => runSeq _ (s.withTmp16 w))
  all_goals exact rfl

end Sys2Proof.Machine
end

