-- ==== Sys2Proof/Laws/PerInstr.lean ====
section
/-! SUPPORT. For every instruction: the row of spec/opcode_table.json, and that the fields of its opcode, its
encoding's length and its form's cycle count agree with that row (30_encoding.md R136). -/

namespace Sys2Proof.Laws

/-- A row of the opcode table: what its mnemonic names, its length, its machine cycles and those when a
condition fails. -/
structure Row where
  form : Form
  length : Nat
  mcycles : Nat
  notTaken : Nat

/-- The row of each instruction, by its mnemonic. -/
def row (i : Instr) : Row :=
  match i with
  | .nop => ⟨.nop, 1, 1, 1⟩
  | .ld_BC_nn _ => ⟨.ldRrNn .bc, 3, 3, 3⟩
  | .ld_mBC_A => ⟨.ldBcA, 1, 2, 2⟩
  | .inc_BC => ⟨.incRr .bc, 1, 2, 2⟩
  | .inc_B => ⟨.incR .b, 1, 1, 1⟩
  | .dec_B => ⟨.decR .b, 1, 1, 1⟩
  | .ld_B_n _ => ⟨.ldRN .b, 2, 2, 2⟩
  | .rlca => ⟨.rlca, 1, 1, 1⟩
  | .ld_mnn_SP _ => ⟨.ldNnSp, 3, 5, 5⟩
  | .add_HL_BC => ⟨.addHlRr .bc, 1, 2, 2⟩
  | .ld_A_mBC => ⟨.ldABc, 1, 2, 2⟩
  | .dec_BC => ⟨.decRr .bc, 1, 2, 2⟩
  | .inc_C => ⟨.incR .c, 1, 1, 1⟩
  | .dec_C => ⟨.decR .c, 1, 1, 1⟩
  | .ld_C_n _ => ⟨.ldRN .c, 2, 2, 2⟩
  | .rrca => ⟨.rrca, 1, 1, 1⟩
  | .stop => ⟨.stop, 2, 1, 1⟩
  | .ld_DE_nn _ => ⟨.ldRrNn .de, 3, 3, 3⟩
  | .ld_mDE_A => ⟨.ldDeA, 1, 2, 2⟩
  | .inc_DE => ⟨.incRr .de, 1, 2, 2⟩
  | .inc_D => ⟨.incR .d, 1, 1, 1⟩
  | .dec_D => ⟨.decR .d, 1, 1, 1⟩
  | .ld_D_n _ => ⟨.ldRN .d, 2, 2, 2⟩
  | .rla => ⟨.rla, 1, 1, 1⟩
  | .jr_e _ => ⟨.jrE, 2, 3, 3⟩
  | .add_HL_DE => ⟨.addHlRr .de, 1, 2, 2⟩
  | .ld_A_mDE => ⟨.ldADe, 1, 2, 2⟩
  | .dec_DE => ⟨.decRr .de, 1, 2, 2⟩
  | .inc_E => ⟨.incR .e, 1, 1, 1⟩
  | .dec_E => ⟨.decR .e, 1, 1, 1⟩
  | .ld_E_n _ => ⟨.ldRN .e, 2, 2, 2⟩
  | .rra => ⟨.rra, 1, 1, 1⟩
  | .jr_NZ_e _ => ⟨.jrCcE .nz, 2, 3, 2⟩
  | .ld_HL_nn _ => ⟨.ldRrNn .hl, 3, 3, 3⟩
  | .ld_mHLi_A => ⟨.ldHliA, 1, 2, 2⟩
  | .inc_HL => ⟨.incRr .hl, 1, 2, 2⟩
  | .inc_H => ⟨.incR .h, 1, 1, 1⟩
  | .dec_H => ⟨.decR .h, 1, 1, 1⟩
  | .ld_H_n _ => ⟨.ldRN .h, 2, 2, 2⟩
  | .daa => ⟨.daa, 1, 1, 1⟩
  | .jr_Z_e _ => ⟨.jrCcE .z, 2, 3, 2⟩
  | .add_HL_HL => ⟨.addHlRr .hl, 1, 2, 2⟩
  | .ld_A_mHLi => ⟨.ldAHli, 1, 2, 2⟩
  | .dec_HL => ⟨.decRr .hl, 1, 2, 2⟩
  | .inc_L => ⟨.incR .l, 1, 1, 1⟩
  | .dec_L => ⟨.decR .l, 1, 1, 1⟩
  | .ld_L_n _ => ⟨.ldRN .l, 2, 2, 2⟩
  | .cpl => ⟨.cpl, 1, 1, 1⟩
  | .jr_NC_e _ => ⟨.jrCcE .nc, 2, 3, 2⟩
  | .ld_SP_nn _ => ⟨.ldRrNn .sp, 3, 3, 3⟩
  | .ld_mHLd_A => ⟨.ldHldA, 1, 2, 2⟩
  | .inc_SP => ⟨.incRr .sp, 1, 2, 2⟩
  | .inc_mHL => ⟨.incHl, 1, 3, 3⟩
  | .dec_mHL => ⟨.decHl, 1, 3, 3⟩
  | .ld_mHL_n _ => ⟨.ldHlN, 2, 3, 3⟩
  | .scf => ⟨.scf, 1, 1, 1⟩
  | .jr_C_e _ => ⟨.jrCcE .c, 2, 3, 2⟩
  | .add_HL_SP => ⟨.addHlRr .sp, 1, 2, 2⟩
  | .ld_A_mHLd => ⟨.ldAHld, 1, 2, 2⟩
  | .dec_SP => ⟨.decRr .sp, 1, 2, 2⟩
  | .inc_A => ⟨.incR .a, 1, 1, 1⟩
  | .dec_A => ⟨.decR .a, 1, 1, 1⟩
  | .ld_A_n _ => ⟨.ldRN .a, 2, 2, 2⟩
  | .ccf => ⟨.ccf, 1, 1, 1⟩
  | .ld_B_B => ⟨.ldRR .b .b, 1, 1, 1⟩
  | .ld_B_C => ⟨.ldRR .b .c, 1, 1, 1⟩
  | .ld_B_D => ⟨.ldRR .b .d, 1, 1, 1⟩
  | .ld_B_E => ⟨.ldRR .b .e, 1, 1, 1⟩
  | .ld_B_H => ⟨.ldRR .b .h, 1, 1, 1⟩
  | .ld_B_L => ⟨.ldRR .b .l, 1, 1, 1⟩
  | .ld_B_mHL => ⟨.ldRHl .b, 1, 2, 2⟩
  | .ld_B_A => ⟨.ldRR .b .a, 1, 1, 1⟩
  | .ld_C_B => ⟨.ldRR .c .b, 1, 1, 1⟩
  | .ld_C_C => ⟨.ldRR .c .c, 1, 1, 1⟩
  | .ld_C_D => ⟨.ldRR .c .d, 1, 1, 1⟩
  | .ld_C_E => ⟨.ldRR .c .e, 1, 1, 1⟩
  | .ld_C_H => ⟨.ldRR .c .h, 1, 1, 1⟩
  | .ld_C_L => ⟨.ldRR .c .l, 1, 1, 1⟩
  | .ld_C_mHL => ⟨.ldRHl .c, 1, 2, 2⟩
  | .ld_C_A => ⟨.ldRR .c .a, 1, 1, 1⟩
  | .ld_D_B => ⟨.ldRR .d .b, 1, 1, 1⟩
  | .ld_D_C => ⟨.ldRR .d .c, 1, 1, 1⟩
  | .ld_D_D => ⟨.ldRR .d .d, 1, 1, 1⟩
  | .ld_D_E => ⟨.ldRR .d .e, 1, 1, 1⟩
  | .ld_D_H => ⟨.ldRR .d .h, 1, 1, 1⟩
  | .ld_D_L => ⟨.ldRR .d .l, 1, 1, 1⟩
  | .ld_D_mHL => ⟨.ldRHl .d, 1, 2, 2⟩
  | .ld_D_A => ⟨.ldRR .d .a, 1, 1, 1⟩
  | .ld_E_B => ⟨.ldRR .e .b, 1, 1, 1⟩
  | .ld_E_C => ⟨.ldRR .e .c, 1, 1, 1⟩
  | .ld_E_D => ⟨.ldRR .e .d, 1, 1, 1⟩
  | .ld_E_E => ⟨.ldRR .e .e, 1, 1, 1⟩
  | .ld_E_H => ⟨.ldRR .e .h, 1, 1, 1⟩
  | .ld_E_L => ⟨.ldRR .e .l, 1, 1, 1⟩
  | .ld_E_mHL => ⟨.ldRHl .e, 1, 2, 2⟩
  | .ld_E_A => ⟨.ldRR .e .a, 1, 1, 1⟩
  | .ld_H_B => ⟨.ldRR .h .b, 1, 1, 1⟩
  | .ld_H_C => ⟨.ldRR .h .c, 1, 1, 1⟩
  | .ld_H_D => ⟨.ldRR .h .d, 1, 1, 1⟩
  | .ld_H_E => ⟨.ldRR .h .e, 1, 1, 1⟩
  | .ld_H_H => ⟨.ldRR .h .h, 1, 1, 1⟩
  | .ld_H_L => ⟨.ldRR .h .l, 1, 1, 1⟩
  | .ld_H_mHL => ⟨.ldRHl .h, 1, 2, 2⟩
  | .ld_H_A => ⟨.ldRR .h .a, 1, 1, 1⟩
  | .ld_L_B => ⟨.ldRR .l .b, 1, 1, 1⟩
  | .ld_L_C => ⟨.ldRR .l .c, 1, 1, 1⟩
  | .ld_L_D => ⟨.ldRR .l .d, 1, 1, 1⟩
  | .ld_L_E => ⟨.ldRR .l .e, 1, 1, 1⟩
  | .ld_L_H => ⟨.ldRR .l .h, 1, 1, 1⟩
  | .ld_L_L => ⟨.ldRR .l .l, 1, 1, 1⟩
  | .ld_L_mHL => ⟨.ldRHl .l, 1, 2, 2⟩
  | .ld_L_A => ⟨.ldRR .l .a, 1, 1, 1⟩
  | .ld_mHL_B => ⟨.ldHlR .b, 1, 2, 2⟩
  | .ld_mHL_C => ⟨.ldHlR .c, 1, 2, 2⟩
  | .ld_mHL_D => ⟨.ldHlR .d, 1, 2, 2⟩
  | .ld_mHL_E => ⟨.ldHlR .e, 1, 2, 2⟩
  | .ld_mHL_H => ⟨.ldHlR .h, 1, 2, 2⟩
  | .ld_mHL_L => ⟨.ldHlR .l, 1, 2, 2⟩
  | .halt => ⟨.halt, 1, 1, 1⟩
  | .ld_mHL_A => ⟨.ldHlR .a, 1, 2, 2⟩
  | .ld_A_B => ⟨.ldRR .a .b, 1, 1, 1⟩
  | .ld_A_C => ⟨.ldRR .a .c, 1, 1, 1⟩
  | .ld_A_D => ⟨.ldRR .a .d, 1, 1, 1⟩
  | .ld_A_E => ⟨.ldRR .a .e, 1, 1, 1⟩
  | .ld_A_H => ⟨.ldRR .a .h, 1, 1, 1⟩
  | .ld_A_L => ⟨.ldRR .a .l, 1, 1, 1⟩
  | .ld_A_mHL => ⟨.ldRHl .a, 1, 2, 2⟩
  | .ld_A_A => ⟨.ldRR .a .a, 1, 1, 1⟩
  | .add_A_B => ⟨.aluR .add .b, 1, 1, 1⟩
  | .add_A_C => ⟨.aluR .add .c, 1, 1, 1⟩
  | .add_A_D => ⟨.aluR .add .d, 1, 1, 1⟩
  | .add_A_E => ⟨.aluR .add .e, 1, 1, 1⟩
  | .add_A_H => ⟨.aluR .add .h, 1, 1, 1⟩
  | .add_A_L => ⟨.aluR .add .l, 1, 1, 1⟩
  | .add_A_mHL => ⟨.aluHl .add, 1, 2, 2⟩
  | .add_A_A => ⟨.aluR .add .a, 1, 1, 1⟩
  | .adc_A_B => ⟨.aluR .adc .b, 1, 1, 1⟩
  | .adc_A_C => ⟨.aluR .adc .c, 1, 1, 1⟩
  | .adc_A_D => ⟨.aluR .adc .d, 1, 1, 1⟩
  | .adc_A_E => ⟨.aluR .adc .e, 1, 1, 1⟩
  | .adc_A_H => ⟨.aluR .adc .h, 1, 1, 1⟩
  | .adc_A_L => ⟨.aluR .adc .l, 1, 1, 1⟩
  | .adc_A_mHL => ⟨.aluHl .adc, 1, 2, 2⟩
  | .adc_A_A => ⟨.aluR .adc .a, 1, 1, 1⟩
  | .sub_B => ⟨.aluR .sub .b, 1, 1, 1⟩
  | .sub_C => ⟨.aluR .sub .c, 1, 1, 1⟩
  | .sub_D => ⟨.aluR .sub .d, 1, 1, 1⟩
  | .sub_E => ⟨.aluR .sub .e, 1, 1, 1⟩
  | .sub_H => ⟨.aluR .sub .h, 1, 1, 1⟩
  | .sub_L => ⟨.aluR .sub .l, 1, 1, 1⟩
  | .sub_mHL => ⟨.aluHl .sub, 1, 2, 2⟩
  | .sub_A => ⟨.aluR .sub .a, 1, 1, 1⟩
  | .sbc_A_B => ⟨.aluR .sbc .b, 1, 1, 1⟩
  | .sbc_A_C => ⟨.aluR .sbc .c, 1, 1, 1⟩
  | .sbc_A_D => ⟨.aluR .sbc .d, 1, 1, 1⟩
  | .sbc_A_E => ⟨.aluR .sbc .e, 1, 1, 1⟩
  | .sbc_A_H => ⟨.aluR .sbc .h, 1, 1, 1⟩
  | .sbc_A_L => ⟨.aluR .sbc .l, 1, 1, 1⟩
  | .sbc_A_mHL => ⟨.aluHl .sbc, 1, 2, 2⟩
  | .sbc_A_A => ⟨.aluR .sbc .a, 1, 1, 1⟩
  | .and_B => ⟨.aluR .and .b, 1, 1, 1⟩
  | .and_C => ⟨.aluR .and .c, 1, 1, 1⟩
  | .and_D => ⟨.aluR .and .d, 1, 1, 1⟩
  | .and_E => ⟨.aluR .and .e, 1, 1, 1⟩
  | .and_H => ⟨.aluR .and .h, 1, 1, 1⟩
  | .and_L => ⟨.aluR .and .l, 1, 1, 1⟩
  | .and_mHL => ⟨.aluHl .and, 1, 2, 2⟩
  | .and_A => ⟨.aluR .and .a, 1, 1, 1⟩
  | .xor_B => ⟨.aluR .xor .b, 1, 1, 1⟩
  | .xor_C => ⟨.aluR .xor .c, 1, 1, 1⟩
  | .xor_D => ⟨.aluR .xor .d, 1, 1, 1⟩
  | .xor_E => ⟨.aluR .xor .e, 1, 1, 1⟩
  | .xor_H => ⟨.aluR .xor .h, 1, 1, 1⟩
  | .xor_L => ⟨.aluR .xor .l, 1, 1, 1⟩
  | .xor_mHL => ⟨.aluHl .xor, 1, 2, 2⟩
  | .xor_A => ⟨.aluR .xor .a, 1, 1, 1⟩
  | .or_B => ⟨.aluR .or .b, 1, 1, 1⟩
  | .or_C => ⟨.aluR .or .c, 1, 1, 1⟩
  | .or_D => ⟨.aluR .or .d, 1, 1, 1⟩
  | .or_E => ⟨.aluR .or .e, 1, 1, 1⟩
  | .or_H => ⟨.aluR .or .h, 1, 1, 1⟩
  | .or_L => ⟨.aluR .or .l, 1, 1, 1⟩
  | .or_mHL => ⟨.aluHl .or, 1, 2, 2⟩
  | .or_A => ⟨.aluR .or .a, 1, 1, 1⟩
  | .cp_B => ⟨.aluR .cp .b, 1, 1, 1⟩
  | .cp_C => ⟨.aluR .cp .c, 1, 1, 1⟩
  | .cp_D => ⟨.aluR .cp .d, 1, 1, 1⟩
  | .cp_E => ⟨.aluR .cp .e, 1, 1, 1⟩
  | .cp_H => ⟨.aluR .cp .h, 1, 1, 1⟩
  | .cp_L => ⟨.aluR .cp .l, 1, 1, 1⟩
  | .cp_mHL => ⟨.aluHl .cp, 1, 2, 2⟩
  | .cp_A => ⟨.aluR .cp .a, 1, 1, 1⟩
  | .ret_NZ => ⟨.retCc .nz, 1, 5, 2⟩
  | .pop_BC => ⟨.pop .bc, 1, 3, 3⟩
  | .jp_NZ_nn _ => ⟨.jpCcNn .nz, 3, 4, 3⟩
  | .jp_nn _ => ⟨.jpNn, 3, 4, 4⟩
  | .call_NZ_nn _ => ⟨.callCcNn .nz, 3, 6, 3⟩
  | .push_BC => ⟨.push .bc, 1, 4, 4⟩
  | .add_A_n _ => ⟨.aluN .add, 2, 2, 2⟩
  | .rst_00 => ⟨.rst 0, 1, 4, 4⟩
  | .ret_Z => ⟨.retCc .z, 1, 5, 2⟩
  | .ret => ⟨.ret, 1, 4, 4⟩
  | .jp_Z_nn _ => ⟨.jpCcNn .z, 3, 4, 3⟩
  | .prefix_CB => ⟨.prefixCb, 1, 1, 1⟩
  | .call_Z_nn _ => ⟨.callCcNn .z, 3, 6, 3⟩
  | .call_nn _ => ⟨.callNn, 3, 6, 6⟩
  | .adc_A_n _ => ⟨.aluN .adc, 2, 2, 2⟩
  | .rst_08 => ⟨.rst 1, 1, 4, 4⟩
  | .ret_NC => ⟨.retCc .nc, 1, 5, 2⟩
  | .pop_DE => ⟨.pop .de, 1, 3, 3⟩
  | .jp_NC_nn _ => ⟨.jpCcNn .nc, 3, 4, 3⟩
  | .undefined _ => ⟨.undefined, 1, 1, 1⟩
  | .call_NC_nn _ => ⟨.callCcNn .nc, 3, 6, 3⟩
  | .push_DE => ⟨.push .de, 1, 4, 4⟩
  | .sub_n _ => ⟨.aluN .sub, 2, 2, 2⟩
  | .rst_10 => ⟨.rst 2, 1, 4, 4⟩
  | .ret_C => ⟨.retCc .c, 1, 5, 2⟩
  | .reti => ⟨.reti, 1, 4, 4⟩
  | .jp_C_nn _ => ⟨.jpCcNn .c, 3, 4, 3⟩
  | .call_C_nn _ => ⟨.callCcNn .c, 3, 6, 3⟩
  | .sbc_A_n _ => ⟨.aluN .sbc, 2, 2, 2⟩
  | .rst_18 => ⟨.rst 3, 1, 4, 4⟩
  | .ldh_mn_A _ => ⟨.ldhNA, 2, 3, 3⟩
  | .pop_HL => ⟨.pop .hl, 1, 3, 3⟩
  | .ldh_mC_A => ⟨.ldhCA, 1, 2, 2⟩
  | .push_HL => ⟨.push .hl, 1, 4, 4⟩
  | .and_n _ => ⟨.aluN .and, 2, 2, 2⟩
  | .rst_20 => ⟨.rst 4, 1, 4, 4⟩
  | .add_SP_e _ => ⟨.addSpE, 2, 4, 4⟩
  | .jp_HL => ⟨.jpHl, 1, 1, 1⟩
  | .ld_mnn_A _ => ⟨.ldNnA, 3, 4, 4⟩
  | .xor_n _ => ⟨.aluN .xor, 2, 2, 2⟩
  | .rst_28 => ⟨.rst 5, 1, 4, 4⟩
  | .ldh_A_mn _ => ⟨.ldhAN, 2, 3, 3⟩
  | .pop_AF => ⟨.pop .af, 1, 3, 3⟩
  | .ldh_A_mC => ⟨.ldhAC, 1, 2, 2⟩
  | .di => ⟨.di, 1, 1, 1⟩
  | .push_AF => ⟨.push .af, 1, 4, 4⟩
  | .or_n _ => ⟨.aluN .or, 2, 2, 2⟩
  | .rst_30 => ⟨.rst 6, 1, 4, 4⟩
  | .ld_HL_SPe _ => ⟨.ldHlSpE, 2, 3, 3⟩
  | .ld_SP_HL => ⟨.ldSpHl, 1, 2, 2⟩
  | .ld_A_mnn _ => ⟨.ldANn, 3, 4, 4⟩
  | .ei => ⟨.ei, 1, 1, 1⟩
  | .cp_n _ => ⟨.aluN .cp, 2, 2, 2⟩
  | .rst_38 => ⟨.rst 7, 1, 4, 4⟩
  | .rlc_B => ⟨.rotR .rlc .b, 2, 2, 2⟩
  | .rlc_C => ⟨.rotR .rlc .c, 2, 2, 2⟩
  | .rlc_D => ⟨.rotR .rlc .d, 2, 2, 2⟩
  | .rlc_E => ⟨.rotR .rlc .e, 2, 2, 2⟩
  | .rlc_H => ⟨.rotR .rlc .h, 2, 2, 2⟩
  | .rlc_L => ⟨.rotR .rlc .l, 2, 2, 2⟩
  | .rlc_mHL => ⟨.rotHl .rlc, 2, 4, 4⟩
  | .rlc_A => ⟨.rotR .rlc .a, 2, 2, 2⟩
  | .rrc_B => ⟨.rotR .rrc .b, 2, 2, 2⟩
  | .rrc_C => ⟨.rotR .rrc .c, 2, 2, 2⟩
  | .rrc_D => ⟨.rotR .rrc .d, 2, 2, 2⟩
  | .rrc_E => ⟨.rotR .rrc .e, 2, 2, 2⟩
  | .rrc_H => ⟨.rotR .rrc .h, 2, 2, 2⟩
  | .rrc_L => ⟨.rotR .rrc .l, 2, 2, 2⟩
  | .rrc_mHL => ⟨.rotHl .rrc, 2, 4, 4⟩
  | .rrc_A => ⟨.rotR .rrc .a, 2, 2, 2⟩
  | .rl_B => ⟨.rotR .rl .b, 2, 2, 2⟩
  | .rl_C => ⟨.rotR .rl .c, 2, 2, 2⟩
  | .rl_D => ⟨.rotR .rl .d, 2, 2, 2⟩
  | .rl_E => ⟨.rotR .rl .e, 2, 2, 2⟩
  | .rl_H => ⟨.rotR .rl .h, 2, 2, 2⟩
  | .rl_L => ⟨.rotR .rl .l, 2, 2, 2⟩
  | .rl_mHL => ⟨.rotHl .rl, 2, 4, 4⟩
  | .rl_A => ⟨.rotR .rl .a, 2, 2, 2⟩
  | .rr_B => ⟨.rotR .rr .b, 2, 2, 2⟩
  | .rr_C => ⟨.rotR .rr .c, 2, 2, 2⟩
  | .rr_D => ⟨.rotR .rr .d, 2, 2, 2⟩
  | .rr_E => ⟨.rotR .rr .e, 2, 2, 2⟩
  | .rr_H => ⟨.rotR .rr .h, 2, 2, 2⟩
  | .rr_L => ⟨.rotR .rr .l, 2, 2, 2⟩
  | .rr_mHL => ⟨.rotHl .rr, 2, 4, 4⟩
  | .rr_A => ⟨.rotR .rr .a, 2, 2, 2⟩
  | .sla_B => ⟨.rotR .sla .b, 2, 2, 2⟩
  | .sla_C => ⟨.rotR .sla .c, 2, 2, 2⟩
  | .sla_D => ⟨.rotR .sla .d, 2, 2, 2⟩
  | .sla_E => ⟨.rotR .sla .e, 2, 2, 2⟩
  | .sla_H => ⟨.rotR .sla .h, 2, 2, 2⟩
  | .sla_L => ⟨.rotR .sla .l, 2, 2, 2⟩
  | .sla_mHL => ⟨.rotHl .sla, 2, 4, 4⟩
  | .sla_A => ⟨.rotR .sla .a, 2, 2, 2⟩
  | .sra_B => ⟨.rotR .sra .b, 2, 2, 2⟩
  | .sra_C => ⟨.rotR .sra .c, 2, 2, 2⟩
  | .sra_D => ⟨.rotR .sra .d, 2, 2, 2⟩
  | .sra_E => ⟨.rotR .sra .e, 2, 2, 2⟩
  | .sra_H => ⟨.rotR .sra .h, 2, 2, 2⟩
  | .sra_L => ⟨.rotR .sra .l, 2, 2, 2⟩
  | .sra_mHL => ⟨.rotHl .sra, 2, 4, 4⟩
  | .sra_A => ⟨.rotR .sra .a, 2, 2, 2⟩
  | .swap_B => ⟨.rotR .swap .b, 2, 2, 2⟩
  | .swap_C => ⟨.rotR .swap .c, 2, 2, 2⟩
  | .swap_D => ⟨.rotR .swap .d, 2, 2, 2⟩
  | .swap_E => ⟨.rotR .swap .e, 2, 2, 2⟩
  | .swap_H => ⟨.rotR .swap .h, 2, 2, 2⟩
  | .swap_L => ⟨.rotR .swap .l, 2, 2, 2⟩
  | .swap_mHL => ⟨.rotHl .swap, 2, 4, 4⟩
  | .swap_A => ⟨.rotR .swap .a, 2, 2, 2⟩
  | .srl_B => ⟨.rotR .srl .b, 2, 2, 2⟩
  | .srl_C => ⟨.rotR .srl .c, 2, 2, 2⟩
  | .srl_D => ⟨.rotR .srl .d, 2, 2, 2⟩
  | .srl_E => ⟨.rotR .srl .e, 2, 2, 2⟩
  | .srl_H => ⟨.rotR .srl .h, 2, 2, 2⟩
  | .srl_L => ⟨.rotR .srl .l, 2, 2, 2⟩
  | .srl_mHL => ⟨.rotHl .srl, 2, 4, 4⟩
  | .srl_A => ⟨.rotR .srl .a, 2, 2, 2⟩
  | .bit_0_B => ⟨.bitR 0 .b, 2, 2, 2⟩
  | .bit_0_C => ⟨.bitR 0 .c, 2, 2, 2⟩
  | .bit_0_D => ⟨.bitR 0 .d, 2, 2, 2⟩
  | .bit_0_E => ⟨.bitR 0 .e, 2, 2, 2⟩
  | .bit_0_H => ⟨.bitR 0 .h, 2, 2, 2⟩
  | .bit_0_L => ⟨.bitR 0 .l, 2, 2, 2⟩
  | .bit_0_mHL => ⟨.bitHl 0, 2, 3, 3⟩
  | .bit_0_A => ⟨.bitR 0 .a, 2, 2, 2⟩
  | .bit_1_B => ⟨.bitR 1 .b, 2, 2, 2⟩
  | .bit_1_C => ⟨.bitR 1 .c, 2, 2, 2⟩
  | .bit_1_D => ⟨.bitR 1 .d, 2, 2, 2⟩
  | .bit_1_E => ⟨.bitR 1 .e, 2, 2, 2⟩
  | .bit_1_H => ⟨.bitR 1 .h, 2, 2, 2⟩
  | .bit_1_L => ⟨.bitR 1 .l, 2, 2, 2⟩
  | .bit_1_mHL => ⟨.bitHl 1, 2, 3, 3⟩
  | .bit_1_A => ⟨.bitR 1 .a, 2, 2, 2⟩
  | .bit_2_B => ⟨.bitR 2 .b, 2, 2, 2⟩
  | .bit_2_C => ⟨.bitR 2 .c, 2, 2, 2⟩
  | .bit_2_D => ⟨.bitR 2 .d, 2, 2, 2⟩
  | .bit_2_E => ⟨.bitR 2 .e, 2, 2, 2⟩
  | .bit_2_H => ⟨.bitR 2 .h, 2, 2, 2⟩
  | .bit_2_L => ⟨.bitR 2 .l, 2, 2, 2⟩
  | .bit_2_mHL => ⟨.bitHl 2, 2, 3, 3⟩
  | .bit_2_A => ⟨.bitR 2 .a, 2, 2, 2⟩
  | .bit_3_B => ⟨.bitR 3 .b, 2, 2, 2⟩
  | .bit_3_C => ⟨.bitR 3 .c, 2, 2, 2⟩
  | .bit_3_D => ⟨.bitR 3 .d, 2, 2, 2⟩
  | .bit_3_E => ⟨.bitR 3 .e, 2, 2, 2⟩
  | .bit_3_H => ⟨.bitR 3 .h, 2, 2, 2⟩
  | .bit_3_L => ⟨.bitR 3 .l, 2, 2, 2⟩
  | .bit_3_mHL => ⟨.bitHl 3, 2, 3, 3⟩
  | .bit_3_A => ⟨.bitR 3 .a, 2, 2, 2⟩
  | .bit_4_B => ⟨.bitR 4 .b, 2, 2, 2⟩
  | .bit_4_C => ⟨.bitR 4 .c, 2, 2, 2⟩
  | .bit_4_D => ⟨.bitR 4 .d, 2, 2, 2⟩
  | .bit_4_E => ⟨.bitR 4 .e, 2, 2, 2⟩
  | .bit_4_H => ⟨.bitR 4 .h, 2, 2, 2⟩
  | .bit_4_L => ⟨.bitR 4 .l, 2, 2, 2⟩
  | .bit_4_mHL => ⟨.bitHl 4, 2, 3, 3⟩
  | .bit_4_A => ⟨.bitR 4 .a, 2, 2, 2⟩
  | .bit_5_B => ⟨.bitR 5 .b, 2, 2, 2⟩
  | .bit_5_C => ⟨.bitR 5 .c, 2, 2, 2⟩
  | .bit_5_D => ⟨.bitR 5 .d, 2, 2, 2⟩
  | .bit_5_E => ⟨.bitR 5 .e, 2, 2, 2⟩
  | .bit_5_H => ⟨.bitR 5 .h, 2, 2, 2⟩
  | .bit_5_L => ⟨.bitR 5 .l, 2, 2, 2⟩
  | .bit_5_mHL => ⟨.bitHl 5, 2, 3, 3⟩
  | .bit_5_A => ⟨.bitR 5 .a, 2, 2, 2⟩
  | .bit_6_B => ⟨.bitR 6 .b, 2, 2, 2⟩
  | .bit_6_C => ⟨.bitR 6 .c, 2, 2, 2⟩
  | .bit_6_D => ⟨.bitR 6 .d, 2, 2, 2⟩
  | .bit_6_E => ⟨.bitR 6 .e, 2, 2, 2⟩
  | .bit_6_H => ⟨.bitR 6 .h, 2, 2, 2⟩
  | .bit_6_L => ⟨.bitR 6 .l, 2, 2, 2⟩
  | .bit_6_mHL => ⟨.bitHl 6, 2, 3, 3⟩
  | .bit_6_A => ⟨.bitR 6 .a, 2, 2, 2⟩
  | .bit_7_B => ⟨.bitR 7 .b, 2, 2, 2⟩
  | .bit_7_C => ⟨.bitR 7 .c, 2, 2, 2⟩
  | .bit_7_D => ⟨.bitR 7 .d, 2, 2, 2⟩
  | .bit_7_E => ⟨.bitR 7 .e, 2, 2, 2⟩
  | .bit_7_H => ⟨.bitR 7 .h, 2, 2, 2⟩
  | .bit_7_L => ⟨.bitR 7 .l, 2, 2, 2⟩
  | .bit_7_mHL => ⟨.bitHl 7, 2, 3, 3⟩
  | .bit_7_A => ⟨.bitR 7 .a, 2, 2, 2⟩
  | .res_0_B => ⟨.resR 0 .b, 2, 2, 2⟩
  | .res_0_C => ⟨.resR 0 .c, 2, 2, 2⟩
  | .res_0_D => ⟨.resR 0 .d, 2, 2, 2⟩
  | .res_0_E => ⟨.resR 0 .e, 2, 2, 2⟩
  | .res_0_H => ⟨.resR 0 .h, 2, 2, 2⟩
  | .res_0_L => ⟨.resR 0 .l, 2, 2, 2⟩
  | .res_0_mHL => ⟨.resHl 0, 2, 4, 4⟩
  | .res_0_A => ⟨.resR 0 .a, 2, 2, 2⟩
  | .res_1_B => ⟨.resR 1 .b, 2, 2, 2⟩
  | .res_1_C => ⟨.resR 1 .c, 2, 2, 2⟩
  | .res_1_D => ⟨.resR 1 .d, 2, 2, 2⟩
  | .res_1_E => ⟨.resR 1 .e, 2, 2, 2⟩
  | .res_1_H => ⟨.resR 1 .h, 2, 2, 2⟩
  | .res_1_L => ⟨.resR 1 .l, 2, 2, 2⟩
  | .res_1_mHL => ⟨.resHl 1, 2, 4, 4⟩
  | .res_1_A => ⟨.resR 1 .a, 2, 2, 2⟩
  | .res_2_B => ⟨.resR 2 .b, 2, 2, 2⟩
  | .res_2_C => ⟨.resR 2 .c, 2, 2, 2⟩
  | .res_2_D => ⟨.resR 2 .d, 2, 2, 2⟩
  | .res_2_E => ⟨.resR 2 .e, 2, 2, 2⟩
  | .res_2_H => ⟨.resR 2 .h, 2, 2, 2⟩
  | .res_2_L => ⟨.resR 2 .l, 2, 2, 2⟩
  | .res_2_mHL => ⟨.resHl 2, 2, 4, 4⟩
  | .res_2_A => ⟨.resR 2 .a, 2, 2, 2⟩
  | .res_3_B => ⟨.resR 3 .b, 2, 2, 2⟩
  | .res_3_C => ⟨.resR 3 .c, 2, 2, 2⟩
  | .res_3_D => ⟨.resR 3 .d, 2, 2, 2⟩
  | .res_3_E => ⟨.resR 3 .e, 2, 2, 2⟩
  | .res_3_H => ⟨.resR 3 .h, 2, 2, 2⟩
  | .res_3_L => ⟨.resR 3 .l, 2, 2, 2⟩
  | .res_3_mHL => ⟨.resHl 3, 2, 4, 4⟩
  | .res_3_A => ⟨.resR 3 .a, 2, 2, 2⟩
  | .res_4_B => ⟨.resR 4 .b, 2, 2, 2⟩
  | .res_4_C => ⟨.resR 4 .c, 2, 2, 2⟩
  | .res_4_D => ⟨.resR 4 .d, 2, 2, 2⟩
  | .res_4_E => ⟨.resR 4 .e, 2, 2, 2⟩
  | .res_4_H => ⟨.resR 4 .h, 2, 2, 2⟩
  | .res_4_L => ⟨.resR 4 .l, 2, 2, 2⟩
  | .res_4_mHL => ⟨.resHl 4, 2, 4, 4⟩
  | .res_4_A => ⟨.resR 4 .a, 2, 2, 2⟩
  | .res_5_B => ⟨.resR 5 .b, 2, 2, 2⟩
  | .res_5_C => ⟨.resR 5 .c, 2, 2, 2⟩
  | .res_5_D => ⟨.resR 5 .d, 2, 2, 2⟩
  | .res_5_E => ⟨.resR 5 .e, 2, 2, 2⟩
  | .res_5_H => ⟨.resR 5 .h, 2, 2, 2⟩
  | .res_5_L => ⟨.resR 5 .l, 2, 2, 2⟩
  | .res_5_mHL => ⟨.resHl 5, 2, 4, 4⟩
  | .res_5_A => ⟨.resR 5 .a, 2, 2, 2⟩
  | .res_6_B => ⟨.resR 6 .b, 2, 2, 2⟩
  | .res_6_C => ⟨.resR 6 .c, 2, 2, 2⟩
  | .res_6_D => ⟨.resR 6 .d, 2, 2, 2⟩
  | .res_6_E => ⟨.resR 6 .e, 2, 2, 2⟩
  | .res_6_H => ⟨.resR 6 .h, 2, 2, 2⟩
  | .res_6_L => ⟨.resR 6 .l, 2, 2, 2⟩
  | .res_6_mHL => ⟨.resHl 6, 2, 4, 4⟩
  | .res_6_A => ⟨.resR 6 .a, 2, 2, 2⟩
  | .res_7_B => ⟨.resR 7 .b, 2, 2, 2⟩
  | .res_7_C => ⟨.resR 7 .c, 2, 2, 2⟩
  | .res_7_D => ⟨.resR 7 .d, 2, 2, 2⟩
  | .res_7_E => ⟨.resR 7 .e, 2, 2, 2⟩
  | .res_7_H => ⟨.resR 7 .h, 2, 2, 2⟩
  | .res_7_L => ⟨.resR 7 .l, 2, 2, 2⟩
  | .res_7_mHL => ⟨.resHl 7, 2, 4, 4⟩
  | .res_7_A => ⟨.resR 7 .a, 2, 2, 2⟩
  | .set_0_B => ⟨.setR 0 .b, 2, 2, 2⟩
  | .set_0_C => ⟨.setR 0 .c, 2, 2, 2⟩
  | .set_0_D => ⟨.setR 0 .d, 2, 2, 2⟩
  | .set_0_E => ⟨.setR 0 .e, 2, 2, 2⟩
  | .set_0_H => ⟨.setR 0 .h, 2, 2, 2⟩
  | .set_0_L => ⟨.setR 0 .l, 2, 2, 2⟩
  | .set_0_mHL => ⟨.setHl 0, 2, 4, 4⟩
  | .set_0_A => ⟨.setR 0 .a, 2, 2, 2⟩
  | .set_1_B => ⟨.setR 1 .b, 2, 2, 2⟩
  | .set_1_C => ⟨.setR 1 .c, 2, 2, 2⟩
  | .set_1_D => ⟨.setR 1 .d, 2, 2, 2⟩
  | .set_1_E => ⟨.setR 1 .e, 2, 2, 2⟩
  | .set_1_H => ⟨.setR 1 .h, 2, 2, 2⟩
  | .set_1_L => ⟨.setR 1 .l, 2, 2, 2⟩
  | .set_1_mHL => ⟨.setHl 1, 2, 4, 4⟩
  | .set_1_A => ⟨.setR 1 .a, 2, 2, 2⟩
  | .set_2_B => ⟨.setR 2 .b, 2, 2, 2⟩
  | .set_2_C => ⟨.setR 2 .c, 2, 2, 2⟩
  | .set_2_D => ⟨.setR 2 .d, 2, 2, 2⟩
  | .set_2_E => ⟨.setR 2 .e, 2, 2, 2⟩
  | .set_2_H => ⟨.setR 2 .h, 2, 2, 2⟩
  | .set_2_L => ⟨.setR 2 .l, 2, 2, 2⟩
  | .set_2_mHL => ⟨.setHl 2, 2, 4, 4⟩
  | .set_2_A => ⟨.setR 2 .a, 2, 2, 2⟩
  | .set_3_B => ⟨.setR 3 .b, 2, 2, 2⟩
  | .set_3_C => ⟨.setR 3 .c, 2, 2, 2⟩
  | .set_3_D => ⟨.setR 3 .d, 2, 2, 2⟩
  | .set_3_E => ⟨.setR 3 .e, 2, 2, 2⟩
  | .set_3_H => ⟨.setR 3 .h, 2, 2, 2⟩
  | .set_3_L => ⟨.setR 3 .l, 2, 2, 2⟩
  | .set_3_mHL => ⟨.setHl 3, 2, 4, 4⟩
  | .set_3_A => ⟨.setR 3 .a, 2, 2, 2⟩
  | .set_4_B => ⟨.setR 4 .b, 2, 2, 2⟩
  | .set_4_C => ⟨.setR 4 .c, 2, 2, 2⟩
  | .set_4_D => ⟨.setR 4 .d, 2, 2, 2⟩
  | .set_4_E => ⟨.setR 4 .e, 2, 2, 2⟩
  | .set_4_H => ⟨.setR 4 .h, 2, 2, 2⟩
  | .set_4_L => ⟨.setR 4 .l, 2, 2, 2⟩
  | .set_4_mHL => ⟨.setHl 4, 2, 4, 4⟩
  | .set_4_A => ⟨.setR 4 .a, 2, 2, 2⟩
  | .set_5_B => ⟨.setR 5 .b, 2, 2, 2⟩
  | .set_5_C => ⟨.setR 5 .c, 2, 2, 2⟩
  | .set_5_D => ⟨.setR 5 .d, 2, 2, 2⟩
  | .set_5_E => ⟨.setR 5 .e, 2, 2, 2⟩
  | .set_5_H => ⟨.setR 5 .h, 2, 2, 2⟩
  | .set_5_L => ⟨.setR 5 .l, 2, 2, 2⟩
  | .set_5_mHL => ⟨.setHl 5, 2, 4, 4⟩
  | .set_5_A => ⟨.setR 5 .a, 2, 2, 2⟩
  | .set_6_B => ⟨.setR 6 .b, 2, 2, 2⟩
  | .set_6_C => ⟨.setR 6 .c, 2, 2, 2⟩
  | .set_6_D => ⟨.setR 6 .d, 2, 2, 2⟩
  | .set_6_E => ⟨.setR 6 .e, 2, 2, 2⟩
  | .set_6_H => ⟨.setR 6 .h, 2, 2, 2⟩
  | .set_6_L => ⟨.setR 6 .l, 2, 2, 2⟩
  | .set_6_mHL => ⟨.setHl 6, 2, 4, 4⟩
  | .set_6_A => ⟨.setR 6 .a, 2, 2, 2⟩
  | .set_7_B => ⟨.setR 7 .b, 2, 2, 2⟩
  | .set_7_C => ⟨.setR 7 .c, 2, 2, 2⟩
  | .set_7_D => ⟨.setR 7 .d, 2, 2, 2⟩
  | .set_7_E => ⟨.setR 7 .e, 2, 2, 2⟩
  | .set_7_H => ⟨.setR 7 .h, 2, 2, 2⟩
  | .set_7_L => ⟨.setR 7 .l, 2, 2, 2⟩
  | .set_7_mHL => ⟨.setHl 7, 2, 4, 4⟩
  | .set_7_A => ⟨.setR 7 .a, 2, 2, 2⟩

namespace Encoding

/-- The encoding of an instruction agrees with its row of the opcode table. -/
def Statement (i : Instr) : Prop :=
  i.wellFormed = true →
    i.form = (row i).form ∧ (encode i).length = (row i).length
      ∧ ∀ x, i.form.cycles x = (row i).mcycles ∨ i.form.cycles x = (row i).notTaken

theorem ite_cases {a b : Nat} (c : Bool) :
    (if c = true then a else b) = a ∨ (if c = true then a else b) = b := by
  cases c
  · exact .inr rfl
  · exact .inl rfl

theorem nop : Statement .nop := fun _ => ⟨rfl, rfl, fun _ => .inl rfl⟩
theorem ld_BC_nn (nn : Word) : Statement (.ld_BC_nn nn) := fun _ => ⟨rfl, rfl, fun _ => .inl rfl⟩
theorem ld_mBC_A : Statement .ld_mBC_A := fun _ => ⟨rfl, rfl, fun _ => .inl rfl⟩
theorem inc_BC : Statement .inc_BC := fun _ => ⟨rfl, rfl, fun _ => .inl rfl⟩
theorem inc_B : Statement .inc_B := fun _ => ⟨rfl, rfl, fun _ => .inl rfl⟩
theorem dec_B : Statement .dec_B := fun _ => ⟨rfl, rfl, fun _ => .inl rfl⟩
theorem ld_B_n (n : Byte) : Statement (.ld_B_n n) := fun _ => ⟨rfl, rfl, fun _ => .inl rfl⟩
theorem rlca : Statement .rlca := fun _ => ⟨rfl, rfl, fun _ => .inl rfl⟩
theorem ld_mnn_SP (nn : Word) : Statement (.ld_mnn_SP nn) := fun _ => ⟨rfl, rfl, fun _ => .inl rfl⟩
theorem add_HL_BC : Statement .add_HL_BC := fun _ => ⟨rfl, rfl, fun _ => .inl rfl⟩
theorem ld_A_mBC : Statement .ld_A_mBC := fun _ => ⟨rfl, rfl, fun _ => .inl rfl⟩
theorem dec_BC : Statement .dec_BC := fun _ => ⟨rfl, rfl, fun _ => .inl rfl⟩
theorem inc_C : Statement .inc_C := fun _ => ⟨rfl, rfl, fun _ => .inl rfl⟩
theorem dec_C : Statement .dec_C := fun _ => ⟨rfl, rfl, fun _ => .inl rfl⟩
theorem ld_C_n (n : Byte) : Statement (.ld_C_n n) := fun _ => ⟨rfl, rfl, fun _ => .inl rfl⟩
theorem rrca : Statement .rrca := fun _ => ⟨rfl, rfl, fun _ => .inl rfl⟩
theorem stop : Statement .stop := fun _ => ⟨rfl, rfl, fun _ => .inl rfl⟩
theorem ld_DE_nn (nn : Word) : Statement (.ld_DE_nn nn) := fun _ => ⟨rfl, rfl, fun _ => .inl rfl⟩
theorem ld_mDE_A : Statement .ld_mDE_A := fun _ => ⟨rfl, rfl, fun _ => .inl rfl⟩
theorem inc_DE : Statement .inc_DE := fun _ => ⟨rfl, rfl, fun _ => .inl rfl⟩
theorem inc_D : Statement .inc_D := fun _ => ⟨rfl, rfl, fun _ => .inl rfl⟩
theorem dec_D : Statement .dec_D := fun _ => ⟨rfl, rfl, fun _ => .inl rfl⟩
theorem ld_D_n (n : Byte) : Statement (.ld_D_n n) := fun _ => ⟨rfl, rfl, fun _ => .inl rfl⟩
theorem rla : Statement .rla := fun _ => ⟨rfl, rfl, fun _ => .inl rfl⟩
theorem jr_e (e : Byte) : Statement (.jr_e e) := fun _ => ⟨rfl, rfl, fun _ => .inl rfl⟩
theorem add_HL_DE : Statement .add_HL_DE := fun _ => ⟨rfl, rfl, fun _ => .inl rfl⟩
theorem ld_A_mDE : Statement .ld_A_mDE := fun _ => ⟨rfl, rfl, fun _ => .inl rfl⟩
theorem dec_DE : Statement .dec_DE := fun _ => ⟨rfl, rfl, fun _ => .inl rfl⟩
theorem inc_E : Statement .inc_E := fun _ => ⟨rfl, rfl, fun _ => .inl rfl⟩
theorem dec_E : Statement .dec_E := fun _ => ⟨rfl, rfl, fun _ => .inl rfl⟩
theorem ld_E_n (n : Byte) : Statement (.ld_E_n n) := fun _ => ⟨rfl, rfl, fun _ => .inl rfl⟩
theorem rra : Statement .rra := fun _ => ⟨rfl, rfl, fun _ => .inl rfl⟩
theorem jr_NZ_e (e : Byte) : Statement (.jr_NZ_e e) := fun _ => ⟨rfl, rfl, fun x => ite_cases (x.holds _)⟩
theorem ld_HL_nn (nn : Word) : Statement (.ld_HL_nn nn) := fun _ => ⟨rfl, rfl, fun _ => .inl rfl⟩
theorem ld_mHLi_A : Statement .ld_mHLi_A := fun _ => ⟨rfl, rfl, fun _ => .inl rfl⟩
theorem inc_HL : Statement .inc_HL := fun _ => ⟨rfl, rfl, fun _ => .inl rfl⟩
theorem inc_H : Statement .inc_H := fun _ => ⟨rfl, rfl, fun _ => .inl rfl⟩
theorem dec_H : Statement .dec_H := fun _ => ⟨rfl, rfl, fun _ => .inl rfl⟩
theorem ld_H_n (n : Byte) : Statement (.ld_H_n n) := fun _ => ⟨rfl, rfl, fun _ => .inl rfl⟩
theorem daa : Statement .daa := fun _ => ⟨rfl, rfl, fun _ => .inl rfl⟩
theorem jr_Z_e (e : Byte) : Statement (.jr_Z_e e) := fun _ => ⟨rfl, rfl, fun x => ite_cases (x.holds _)⟩
theorem add_HL_HL : Statement .add_HL_HL := fun _ => ⟨rfl, rfl, fun _ => .inl rfl⟩
theorem ld_A_mHLi : Statement .ld_A_mHLi := fun _ => ⟨rfl, rfl, fun _ => .inl rfl⟩
theorem dec_HL : Statement .dec_HL := fun _ => ⟨rfl, rfl, fun _ => .inl rfl⟩
theorem inc_L : Statement .inc_L := fun _ => ⟨rfl, rfl, fun _ => .inl rfl⟩
theorem dec_L : Statement .dec_L := fun _ => ⟨rfl, rfl, fun _ => .inl rfl⟩
theorem ld_L_n (n : Byte) : Statement (.ld_L_n n) := fun _ => ⟨rfl, rfl, fun _ => .inl rfl⟩
theorem cpl : Statement .cpl := fun _ => ⟨rfl, rfl, fun _ => .inl rfl⟩
theorem jr_NC_e (e : Byte) : Statement (.jr_NC_e e) := fun _ => ⟨rfl, rfl, fun x => ite_cases (x.holds _)⟩
theorem ld_SP_nn (nn : Word) : Statement (.ld_SP_nn nn) := fun _ => ⟨rfl, rfl, fun _ => .inl rfl⟩
theorem ld_mHLd_A : Statement .ld_mHLd_A := fun _ => ⟨rfl, rfl, fun _ => .inl rfl⟩
theorem inc_SP : Statement .inc_SP := fun _ => ⟨rfl, rfl, fun _ => .inl rfl⟩
theorem inc_mHL : Statement .inc_mHL := fun _ => ⟨rfl, rfl, fun _ => .inl rfl⟩
theorem dec_mHL : Statement .dec_mHL := fun _ => ⟨rfl, rfl, fun _ => .inl rfl⟩
theorem ld_mHL_n (n : Byte) : Statement (.ld_mHL_n n) := fun _ => ⟨rfl, rfl, fun _ => .inl rfl⟩
theorem scf : Statement .scf := fun _ => ⟨rfl, rfl, fun _ => .inl rfl⟩
theorem jr_C_e (e : Byte) : Statement (.jr_C_e e) := fun _ => ⟨rfl, rfl, fun x => ite_cases (x.holds _)⟩
theorem add_HL_SP : Statement .add_HL_SP := fun _ => ⟨rfl, rfl, fun _ => .inl rfl⟩
theorem ld_A_mHLd : Statement .ld_A_mHLd := fun _ => ⟨rfl, rfl, fun _ => .inl rfl⟩
theorem dec_SP : Statement .dec_SP := fun _ => ⟨rfl, rfl, fun _ => .inl rfl⟩
theorem inc_A : Statement .inc_A := fun _ => ⟨rfl, rfl, fun _ => .inl rfl⟩
theorem dec_A : Statement .dec_A := fun _ => ⟨rfl, rfl, fun _ => .inl rfl⟩
theorem ld_A_n (n : Byte) : Statement (.ld_A_n n) := fun _ => ⟨rfl, rfl, fun _ => .inl rfl⟩
theorem ccf : Statement .ccf := fun _ => ⟨rfl, rfl, fun _ => .inl rfl⟩
theorem ld_B_B : Statement .ld_B_B := fun _ => ⟨rfl, rfl, fun _ => .inl rfl⟩
theorem ld_B_C : Statement .ld_B_C := fun _ => ⟨rfl, rfl, fun _ => .inl rfl⟩
theorem ld_B_D : Statement .ld_B_D := fun _ => ⟨rfl, rfl, fun _ => .inl rfl⟩
theorem ld_B_E : Statement .ld_B_E := fun _ => ⟨rfl, rfl, fun _ => .inl rfl⟩
theorem ld_B_H : Statement .ld_B_H := fun _ => ⟨rfl, rfl, fun _ => .inl rfl⟩
theorem ld_B_L : Statement .ld_B_L := fun _ => ⟨rfl, rfl, fun _ => .inl rfl⟩
theorem ld_B_mHL : Statement .ld_B_mHL := fun _ => ⟨rfl, rfl, fun _ => .inl rfl⟩
theorem ld_B_A : Statement .ld_B_A := fun _ => ⟨rfl, rfl, fun _ => .inl rfl⟩
theorem ld_C_B : Statement .ld_C_B := fun _ => ⟨rfl, rfl, fun _ => .inl rfl⟩
theorem ld_C_C : Statement .ld_C_C := fun _ => ⟨rfl, rfl, fun _ => .inl rfl⟩
theorem ld_C_D : Statement .ld_C_D := fun _ => ⟨rfl, rfl, fun _ => .inl rfl⟩
theorem ld_C_E : Statement .ld_C_E := fun _ => ⟨rfl, rfl, fun _ => .inl rfl⟩
theorem ld_C_H : Statement .ld_C_H := fun _ => ⟨rfl, rfl, fun _ => .inl rfl⟩
theorem ld_C_L : Statement .ld_C_L := fun _ => ⟨rfl, rfl, fun _ => .inl rfl⟩
theorem ld_C_mHL : Statement .ld_C_mHL := fun _ => ⟨rfl, rfl, fun _ => .inl rfl⟩
theorem ld_C_A : Statement .ld_C_A := fun _ => ⟨rfl, rfl, fun _ => .inl rfl⟩
theorem ld_D_B : Statement .ld_D_B := fun _ => ⟨rfl, rfl, fun _ => .inl rfl⟩
theorem ld_D_C : Statement .ld_D_C := fun _ => ⟨rfl, rfl, fun _ => .inl rfl⟩
theorem ld_D_D : Statement .ld_D_D := fun _ => ⟨rfl, rfl, fun _ => .inl rfl⟩
theorem ld_D_E : Statement .ld_D_E := fun _ => ⟨rfl, rfl, fun _ => .inl rfl⟩
theorem ld_D_H : Statement .ld_D_H := fun _ => ⟨rfl, rfl, fun _ => .inl rfl⟩
theorem ld_D_L : Statement .ld_D_L := fun _ => ⟨rfl, rfl, fun _ => .inl rfl⟩
theorem ld_D_mHL : Statement .ld_D_mHL := fun _ => ⟨rfl, rfl, fun _ => .inl rfl⟩
theorem ld_D_A : Statement .ld_D_A := fun _ => ⟨rfl, rfl, fun _ => .inl rfl⟩
theorem ld_E_B : Statement .ld_E_B := fun _ => ⟨rfl, rfl, fun _ => .inl rfl⟩
theorem ld_E_C : Statement .ld_E_C := fun _ => ⟨rfl, rfl, fun _ => .inl rfl⟩
theorem ld_E_D : Statement .ld_E_D := fun _ => ⟨rfl, rfl, fun _ => .inl rfl⟩
theorem ld_E_E : Statement .ld_E_E := fun _ => ⟨rfl, rfl, fun _ => .inl rfl⟩
theorem ld_E_H : Statement .ld_E_H := fun _ => ⟨rfl, rfl, fun _ => .inl rfl⟩
theorem ld_E_L : Statement .ld_E_L := fun _ => ⟨rfl, rfl, fun _ => .inl rfl⟩
theorem ld_E_mHL : Statement .ld_E_mHL := fun _ => ⟨rfl, rfl, fun _ => .inl rfl⟩
theorem ld_E_A : Statement .ld_E_A := fun _ => ⟨rfl, rfl, fun _ => .inl rfl⟩
theorem ld_H_B : Statement .ld_H_B := fun _ => ⟨rfl, rfl, fun _ => .inl rfl⟩
theorem ld_H_C : Statement .ld_H_C := fun _ => ⟨rfl, rfl, fun _ => .inl rfl⟩
theorem ld_H_D : Statement .ld_H_D := fun _ => ⟨rfl, rfl, fun _ => .inl rfl⟩
theorem ld_H_E : Statement .ld_H_E := fun _ => ⟨rfl, rfl, fun _ => .inl rfl⟩
theorem ld_H_H : Statement .ld_H_H := fun _ => ⟨rfl, rfl, fun _ => .inl rfl⟩
theorem ld_H_L : Statement .ld_H_L := fun _ => ⟨rfl, rfl, fun _ => .inl rfl⟩
theorem ld_H_mHL : Statement .ld_H_mHL := fun _ => ⟨rfl, rfl, fun _ => .inl rfl⟩
theorem ld_H_A : Statement .ld_H_A := fun _ => ⟨rfl, rfl, fun _ => .inl rfl⟩
theorem ld_L_B : Statement .ld_L_B := fun _ => ⟨rfl, rfl, fun _ => .inl rfl⟩
theorem ld_L_C : Statement .ld_L_C := fun _ => ⟨rfl, rfl, fun _ => .inl rfl⟩
theorem ld_L_D : Statement .ld_L_D := fun _ => ⟨rfl, rfl, fun _ => .inl rfl⟩
theorem ld_L_E : Statement .ld_L_E := fun _ => ⟨rfl, rfl, fun _ => .inl rfl⟩
theorem ld_L_H : Statement .ld_L_H := fun _ => ⟨rfl, rfl, fun _ => .inl rfl⟩
theorem ld_L_L : Statement .ld_L_L := fun _ => ⟨rfl, rfl, fun _ => .inl rfl⟩
theorem ld_L_mHL : Statement .ld_L_mHL := fun _ => ⟨rfl, rfl, fun _ => .inl rfl⟩
theorem ld_L_A : Statement .ld_L_A := fun _ => ⟨rfl, rfl, fun _ => .inl rfl⟩
theorem ld_mHL_B : Statement .ld_mHL_B := fun _ => ⟨rfl, rfl, fun _ => .inl rfl⟩
theorem ld_mHL_C : Statement .ld_mHL_C := fun _ => ⟨rfl, rfl, fun _ => .inl rfl⟩
theorem ld_mHL_D : Statement .ld_mHL_D := fun _ => ⟨rfl, rfl, fun _ => .inl rfl⟩
theorem ld_mHL_E : Statement .ld_mHL_E := fun _ => ⟨rfl, rfl, fun _ => .inl rfl⟩
theorem ld_mHL_H : Statement .ld_mHL_H := fun _ => ⟨rfl, rfl, fun _ => .inl rfl⟩
theorem ld_mHL_L : Statement .ld_mHL_L := fun _ => ⟨rfl, rfl, fun _ => .inl rfl⟩
theorem halt : Statement .halt := fun _ => ⟨rfl, rfl, fun _ => .inl rfl⟩
theorem ld_mHL_A : Statement .ld_mHL_A := fun _ => ⟨rfl, rfl, fun _ => .inl rfl⟩
theorem ld_A_B : Statement .ld_A_B := fun _ => ⟨rfl, rfl, fun _ => .inl rfl⟩
theorem ld_A_C : Statement .ld_A_C := fun _ => ⟨rfl, rfl, fun _ => .inl rfl⟩
theorem ld_A_D : Statement .ld_A_D := fun _ => ⟨rfl, rfl, fun _ => .inl rfl⟩
theorem ld_A_E : Statement .ld_A_E := fun _ => ⟨rfl, rfl, fun _ => .inl rfl⟩
theorem ld_A_H : Statement .ld_A_H := fun _ => ⟨rfl, rfl, fun _ => .inl rfl⟩
theorem ld_A_L : Statement .ld_A_L := fun _ => ⟨rfl, rfl, fun _ => .inl rfl⟩
theorem ld_A_mHL : Statement .ld_A_mHL := fun _ => ⟨rfl, rfl, fun _ => .inl rfl⟩
theorem ld_A_A : Statement .ld_A_A := fun _ => ⟨rfl, rfl, fun _ => .inl rfl⟩
theorem add_A_B : Statement .add_A_B := fun _ => ⟨rfl, rfl, fun _ => .inl rfl⟩
theorem add_A_C : Statement .add_A_C := fun _ => ⟨rfl, rfl, fun _ => .inl rfl⟩
theorem add_A_D : Statement .add_A_D := fun _ => ⟨rfl, rfl, fun _ => .inl rfl⟩
theorem add_A_E : Statement .add_A_E := fun _ => ⟨rfl, rfl, fun _ => .inl rfl⟩
theorem add_A_H : Statement .add_A_H := fun _ => ⟨rfl, rfl, fun _ => .inl rfl⟩
theorem add_A_L : Statement .add_A_L := fun _ => ⟨rfl, rfl, fun _ => .inl rfl⟩
theorem add_A_mHL : Statement .add_A_mHL := fun _ => ⟨rfl, rfl, fun _ => .inl rfl⟩
theorem add_A_A : Statement .add_A_A := fun _ => ⟨rfl, rfl, fun _ => .inl rfl⟩
theorem adc_A_B : Statement .adc_A_B := fun _ => ⟨rfl, rfl, fun _ => .inl rfl⟩
theorem adc_A_C : Statement .adc_A_C := fun _ => ⟨rfl, rfl, fun _ => .inl rfl⟩
theorem adc_A_D : Statement .adc_A_D := fun _ => ⟨rfl, rfl, fun _ => .inl rfl⟩
theorem adc_A_E : Statement .adc_A_E := fun _ => ⟨rfl, rfl, fun _ => .inl rfl⟩
theorem adc_A_H : Statement .adc_A_H := fun _ => ⟨rfl, rfl, fun _ => .inl rfl⟩
theorem adc_A_L : Statement .adc_A_L := fun _ => ⟨rfl, rfl, fun _ => .inl rfl⟩
theorem adc_A_mHL : Statement .adc_A_mHL := fun _ => ⟨rfl, rfl, fun _ => .inl rfl⟩
theorem adc_A_A : Statement .adc_A_A := fun _ => ⟨rfl, rfl, fun _ => .inl rfl⟩
theorem sub_B : Statement .sub_B := fun _ => ⟨rfl, rfl, fun _ => .inl rfl⟩
theorem sub_C : Statement .sub_C := fun _ => ⟨rfl, rfl, fun _ => .inl rfl⟩
theorem sub_D : Statement .sub_D := fun _ => ⟨rfl, rfl, fun _ => .inl rfl⟩
theorem sub_E : Statement .sub_E := fun _ => ⟨rfl, rfl, fun _ => .inl rfl⟩
theorem sub_H : Statement .sub_H := fun _ => ⟨rfl, rfl, fun _ => .inl rfl⟩
theorem sub_L : Statement .sub_L := fun _ => ⟨rfl, rfl, fun _ => .inl rfl⟩
theorem sub_mHL : Statement .sub_mHL := fun _ => ⟨rfl, rfl, fun _ => .inl rfl⟩
theorem sub_A : Statement .sub_A := fun _ => ⟨rfl, rfl, fun _ => .inl rfl⟩
theorem sbc_A_B : Statement .sbc_A_B := fun _ => ⟨rfl, rfl, fun _ => .inl rfl⟩
theorem sbc_A_C : Statement .sbc_A_C := fun _ => ⟨rfl, rfl, fun _ => .inl rfl⟩
theorem sbc_A_D : Statement .sbc_A_D := fun _ => ⟨rfl, rfl, fun _ => .inl rfl⟩
theorem sbc_A_E : Statement .sbc_A_E := fun _ => ⟨rfl, rfl, fun _ => .inl rfl⟩
theorem sbc_A_H : Statement .sbc_A_H := fun _ => ⟨rfl, rfl, fun _ => .inl rfl⟩
theorem sbc_A_L : Statement .sbc_A_L := fun _ => ⟨rfl, rfl, fun _ => .inl rfl⟩
theorem sbc_A_mHL : Statement .sbc_A_mHL := fun _ => ⟨rfl, rfl, fun _ => .inl rfl⟩
theorem sbc_A_A : Statement .sbc_A_A := fun _ => ⟨rfl, rfl, fun _ => .inl rfl⟩
theorem and_B : Statement .and_B := fun _ => ⟨rfl, rfl, fun _ => .inl rfl⟩
theorem and_C : Statement .and_C := fun _ => ⟨rfl, rfl, fun _ => .inl rfl⟩
theorem and_D : Statement .and_D := fun _ => ⟨rfl, rfl, fun _ => .inl rfl⟩
theorem and_E : Statement .and_E := fun _ => ⟨rfl, rfl, fun _ => .inl rfl⟩
theorem and_H : Statement .and_H := fun _ => ⟨rfl, rfl, fun _ => .inl rfl⟩
theorem and_L : Statement .and_L := fun _ => ⟨rfl, rfl, fun _ => .inl rfl⟩
theorem and_mHL : Statement .and_mHL := fun _ => ⟨rfl, rfl, fun _ => .inl rfl⟩
theorem and_A : Statement .and_A := fun _ => ⟨rfl, rfl, fun _ => .inl rfl⟩
theorem xor_B : Statement .xor_B := fun _ => ⟨rfl, rfl, fun _ => .inl rfl⟩
theorem xor_C : Statement .xor_C := fun _ => ⟨rfl, rfl, fun _ => .inl rfl⟩
theorem xor_D : Statement .xor_D := fun _ => ⟨rfl, rfl, fun _ => .inl rfl⟩
theorem xor_E : Statement .xor_E := fun _ => ⟨rfl, rfl, fun _ => .inl rfl⟩
theorem xor_H : Statement .xor_H := fun _ => ⟨rfl, rfl, fun _ => .inl rfl⟩
theorem xor_L : Statement .xor_L := fun _ => ⟨rfl, rfl, fun _ => .inl rfl⟩
theorem xor_mHL : Statement .xor_mHL := fun _ => ⟨rfl, rfl, fun _ => .inl rfl⟩
theorem xor_A : Statement .xor_A := fun _ => ⟨rfl, rfl, fun _ => .inl rfl⟩
theorem or_B : Statement .or_B := fun _ => ⟨rfl, rfl, fun _ => .inl rfl⟩
theorem or_C : Statement .or_C := fun _ => ⟨rfl, rfl, fun _ => .inl rfl⟩
theorem or_D : Statement .or_D := fun _ => ⟨rfl, rfl, fun _ => .inl rfl⟩
theorem or_E : Statement .or_E := fun _ => ⟨rfl, rfl, fun _ => .inl rfl⟩
theorem or_H : Statement .or_H := fun _ => ⟨rfl, rfl, fun _ => .inl rfl⟩
theorem or_L : Statement .or_L := fun _ => ⟨rfl, rfl, fun _ => .inl rfl⟩
theorem or_mHL : Statement .or_mHL := fun _ => ⟨rfl, rfl, fun _ => .inl rfl⟩
theorem or_A : Statement .or_A := fun _ => ⟨rfl, rfl, fun _ => .inl rfl⟩
theorem cp_B : Statement .cp_B := fun _ => ⟨rfl, rfl, fun _ => .inl rfl⟩
theorem cp_C : Statement .cp_C := fun _ => ⟨rfl, rfl, fun _ => .inl rfl⟩
theorem cp_D : Statement .cp_D := fun _ => ⟨rfl, rfl, fun _ => .inl rfl⟩
theorem cp_E : Statement .cp_E := fun _ => ⟨rfl, rfl, fun _ => .inl rfl⟩
theorem cp_H : Statement .cp_H := fun _ => ⟨rfl, rfl, fun _ => .inl rfl⟩
theorem cp_L : Statement .cp_L := fun _ => ⟨rfl, rfl, fun _ => .inl rfl⟩
theorem cp_mHL : Statement .cp_mHL := fun _ => ⟨rfl, rfl, fun _ => .inl rfl⟩
theorem cp_A : Statement .cp_A := fun _ => ⟨rfl, rfl, fun _ => .inl rfl⟩
theorem ret_NZ : Statement .ret_NZ := fun _ => ⟨rfl, rfl, fun x => ite_cases (x.holds _)⟩
theorem pop_BC : Statement .pop_BC := fun _ => ⟨rfl, rfl, fun _ => .inl rfl⟩
theorem jp_NZ_nn (nn : Word) : Statement (.jp_NZ_nn nn) := fun _ => ⟨rfl, rfl, fun x => ite_cases (x.holds _)⟩
theorem jp_nn (nn : Word) : Statement (.jp_nn nn) := fun _ => ⟨rfl, rfl, fun _ => .inl rfl⟩
theorem call_NZ_nn (nn : Word) : Statement (.call_NZ_nn nn) := fun _ => ⟨rfl, rfl, fun x => ite_cases (x.holds _)⟩
theorem push_BC : Statement .push_BC := fun _ => ⟨rfl, rfl, fun _ => .inl rfl⟩
theorem add_A_n (n : Byte) : Statement (.add_A_n n) := fun _ => ⟨rfl, rfl, fun _ => .inl rfl⟩
theorem rst_00 : Statement .rst_00 := fun _ => ⟨rfl, rfl, fun _ => .inl rfl⟩
theorem ret_Z : Statement .ret_Z := fun _ => ⟨rfl, rfl, fun x => ite_cases (x.holds _)⟩
theorem ret : Statement .ret := fun _ => ⟨rfl, rfl, fun _ => .inl rfl⟩
theorem jp_Z_nn (nn : Word) : Statement (.jp_Z_nn nn) := fun _ => ⟨rfl, rfl, fun x => ite_cases (x.holds _)⟩
theorem prefix_CB : Statement .prefix_CB := fun _ => ⟨rfl, rfl, fun _ => .inl rfl⟩
theorem call_Z_nn (nn : Word) : Statement (.call_Z_nn nn) := fun _ => ⟨rfl, rfl, fun x => ite_cases (x.holds _)⟩
theorem call_nn (nn : Word) : Statement (.call_nn nn) := fun _ => ⟨rfl, rfl, fun _ => .inl rfl⟩
theorem adc_A_n (n : Byte) : Statement (.adc_A_n n) := fun _ => ⟨rfl, rfl, fun _ => .inl rfl⟩
theorem rst_08 : Statement .rst_08 := fun _ => ⟨rfl, rfl, fun _ => .inl rfl⟩
theorem ret_NC : Statement .ret_NC := fun _ => ⟨rfl, rfl, fun x => ite_cases (x.holds _)⟩
theorem pop_DE : Statement .pop_DE := fun _ => ⟨rfl, rfl, fun _ => .inl rfl⟩
theorem jp_NC_nn (nn : Word) : Statement (.jp_NC_nn nn) := fun _ => ⟨rfl, rfl, fun x => ite_cases (x.holds _)⟩
theorem undefined (op : Byte) : Statement (.undefined op) := fun _ => ⟨rfl, rfl, fun _ => .inl rfl⟩
theorem call_NC_nn (nn : Word) : Statement (.call_NC_nn nn) := fun _ => ⟨rfl, rfl, fun x => ite_cases (x.holds _)⟩
theorem push_DE : Statement .push_DE := fun _ => ⟨rfl, rfl, fun _ => .inl rfl⟩
theorem sub_n (n : Byte) : Statement (.sub_n n) := fun _ => ⟨rfl, rfl, fun _ => .inl rfl⟩
theorem rst_10 : Statement .rst_10 := fun _ => ⟨rfl, rfl, fun _ => .inl rfl⟩
theorem ret_C : Statement .ret_C := fun _ => ⟨rfl, rfl, fun x => ite_cases (x.holds _)⟩
theorem reti : Statement .reti := fun _ => ⟨rfl, rfl, fun _ => .inl rfl⟩
theorem jp_C_nn (nn : Word) : Statement (.jp_C_nn nn) := fun _ => ⟨rfl, rfl, fun x => ite_cases (x.holds _)⟩
theorem call_C_nn (nn : Word) : Statement (.call_C_nn nn) := fun _ => ⟨rfl, rfl, fun x => ite_cases (x.holds _)⟩
theorem sbc_A_n (n : Byte) : Statement (.sbc_A_n n) := fun _ => ⟨rfl, rfl, fun _ => .inl rfl⟩
theorem rst_18 : Statement .rst_18 := fun _ => ⟨rfl, rfl, fun _ => .inl rfl⟩
theorem ldh_mn_A (n : Byte) : Statement (.ldh_mn_A n) := fun _ => ⟨rfl, rfl, fun _ => .inl rfl⟩
theorem pop_HL : Statement .pop_HL := fun _ => ⟨rfl, rfl, fun _ => .inl rfl⟩
theorem ldh_mC_A : Statement .ldh_mC_A := fun _ => ⟨rfl, rfl, fun _ => .inl rfl⟩
theorem push_HL : Statement .push_HL := fun _ => ⟨rfl, rfl, fun _ => .inl rfl⟩
theorem and_n (n : Byte) : Statement (.and_n n) := fun _ => ⟨rfl, rfl, fun _ => .inl rfl⟩
theorem rst_20 : Statement .rst_20 := fun _ => ⟨rfl, rfl, fun _ => .inl rfl⟩
theorem add_SP_e (e : Byte) : Statement (.add_SP_e e) := fun _ => ⟨rfl, rfl, fun _ => .inl rfl⟩
theorem jp_HL : Statement .jp_HL := fun _ => ⟨rfl, rfl, fun _ => .inl rfl⟩
theorem ld_mnn_A (nn : Word) : Statement (.ld_mnn_A nn) := fun _ => ⟨rfl, rfl, fun _ => .inl rfl⟩
theorem xor_n (n : Byte) : Statement (.xor_n n) := fun _ => ⟨rfl, rfl, fun _ => .inl rfl⟩
theorem rst_28 : Statement .rst_28 := fun _ => ⟨rfl, rfl, fun _ => .inl rfl⟩
theorem ldh_A_mn (n : Byte) : Statement (.ldh_A_mn n) := fun _ => ⟨rfl, rfl, fun _ => .inl rfl⟩
theorem pop_AF : Statement .pop_AF := fun _ => ⟨rfl, rfl, fun _ => .inl rfl⟩
theorem ldh_A_mC : Statement .ldh_A_mC := fun _ => ⟨rfl, rfl, fun _ => .inl rfl⟩
theorem di : Statement .di := fun _ => ⟨rfl, rfl, fun _ => .inl rfl⟩
theorem push_AF : Statement .push_AF := fun _ => ⟨rfl, rfl, fun _ => .inl rfl⟩
theorem or_n (n : Byte) : Statement (.or_n n) := fun _ => ⟨rfl, rfl, fun _ => .inl rfl⟩
theorem rst_30 : Statement .rst_30 := fun _ => ⟨rfl, rfl, fun _ => .inl rfl⟩
theorem ld_HL_SPe (e : Byte) : Statement (.ld_HL_SPe e) := fun _ => ⟨rfl, rfl, fun _ => .inl rfl⟩
theorem ld_SP_HL : Statement .ld_SP_HL := fun _ => ⟨rfl, rfl, fun _ => .inl rfl⟩
theorem ld_A_mnn (nn : Word) : Statement (.ld_A_mnn nn) := fun _ => ⟨rfl, rfl, fun _ => .inl rfl⟩
theorem ei : Statement .ei := fun _ => ⟨rfl, rfl, fun _ => .inl rfl⟩
theorem cp_n (n : Byte) : Statement (.cp_n n) := fun _ => ⟨rfl, rfl, fun _ => .inl rfl⟩
theorem rst_38 : Statement .rst_38 := fun _ => ⟨rfl, rfl, fun _ => .inl rfl⟩
theorem rlc_B : Statement .rlc_B := fun _ => ⟨rfl, rfl, fun _ => .inl rfl⟩
theorem rlc_C : Statement .rlc_C := fun _ => ⟨rfl, rfl, fun _ => .inl rfl⟩
theorem rlc_D : Statement .rlc_D := fun _ => ⟨rfl, rfl, fun _ => .inl rfl⟩
theorem rlc_E : Statement .rlc_E := fun _ => ⟨rfl, rfl, fun _ => .inl rfl⟩
theorem rlc_H : Statement .rlc_H := fun _ => ⟨rfl, rfl, fun _ => .inl rfl⟩
theorem rlc_L : Statement .rlc_L := fun _ => ⟨rfl, rfl, fun _ => .inl rfl⟩
theorem rlc_mHL : Statement .rlc_mHL := fun _ => ⟨rfl, rfl, fun _ => .inl rfl⟩
theorem rlc_A : Statement .rlc_A := fun _ => ⟨rfl, rfl, fun _ => .inl rfl⟩
theorem rrc_B : Statement .rrc_B := fun _ => ⟨rfl, rfl, fun _ => .inl rfl⟩
theorem rrc_C : Statement .rrc_C := fun _ => ⟨rfl, rfl, fun _ => .inl rfl⟩
theorem rrc_D : Statement .rrc_D := fun _ => ⟨rfl, rfl, fun _ => .inl rfl⟩
theorem rrc_E : Statement .rrc_E := fun _ => ⟨rfl, rfl, fun _ => .inl rfl⟩
theorem rrc_H : Statement .rrc_H := fun _ => ⟨rfl, rfl, fun _ => .inl rfl⟩
theorem rrc_L : Statement .rrc_L := fun _ => ⟨rfl, rfl, fun _ => .inl rfl⟩
theorem rrc_mHL : Statement .rrc_mHL := fun _ => ⟨rfl, rfl, fun _ => .inl rfl⟩
theorem rrc_A : Statement .rrc_A := fun _ => ⟨rfl, rfl, fun _ => .inl rfl⟩
theorem rl_B : Statement .rl_B := fun _ => ⟨rfl, rfl, fun _ => .inl rfl⟩
theorem rl_C : Statement .rl_C := fun _ => ⟨rfl, rfl, fun _ => .inl rfl⟩
theorem rl_D : Statement .rl_D := fun _ => ⟨rfl, rfl, fun _ => .inl rfl⟩
theorem rl_E : Statement .rl_E := fun _ => ⟨rfl, rfl, fun _ => .inl rfl⟩
theorem rl_H : Statement .rl_H := fun _ => ⟨rfl, rfl, fun _ => .inl rfl⟩
theorem rl_L : Statement .rl_L := fun _ => ⟨rfl, rfl, fun _ => .inl rfl⟩
theorem rl_mHL : Statement .rl_mHL := fun _ => ⟨rfl, rfl, fun _ => .inl rfl⟩
theorem rl_A : Statement .rl_A := fun _ => ⟨rfl, rfl, fun _ => .inl rfl⟩
theorem rr_B : Statement .rr_B := fun _ => ⟨rfl, rfl, fun _ => .inl rfl⟩
theorem rr_C : Statement .rr_C := fun _ => ⟨rfl, rfl, fun _ => .inl rfl⟩
theorem rr_D : Statement .rr_D := fun _ => ⟨rfl, rfl, fun _ => .inl rfl⟩
theorem rr_E : Statement .rr_E := fun _ => ⟨rfl, rfl, fun _ => .inl rfl⟩
theorem rr_H : Statement .rr_H := fun _ => ⟨rfl, rfl, fun _ => .inl rfl⟩
theorem rr_L : Statement .rr_L := fun _ => ⟨rfl, rfl, fun _ => .inl rfl⟩
theorem rr_mHL : Statement .rr_mHL := fun _ => ⟨rfl, rfl, fun _ => .inl rfl⟩
theorem rr_A : Statement .rr_A := fun _ => ⟨rfl, rfl, fun _ => .inl rfl⟩
theorem sla_B : Statement .sla_B := fun _ => ⟨rfl, rfl, fun _ => .inl rfl⟩
theorem sla_C : Statement .sla_C := fun _ => ⟨rfl, rfl, fun _ => .inl rfl⟩
theorem sla_D : Statement .sla_D := fun _ => ⟨rfl, rfl, fun _ => .inl rfl⟩
theorem sla_E : Statement .sla_E := fun _ => ⟨rfl, rfl, fun _ => .inl rfl⟩
theorem sla_H : Statement .sla_H := fun _ => ⟨rfl, rfl, fun _ => .inl rfl⟩
theorem sla_L : Statement .sla_L := fun _ => ⟨rfl, rfl, fun _ => .inl rfl⟩
theorem sla_mHL : Statement .sla_mHL := fun _ => ⟨rfl, rfl, fun _ => .inl rfl⟩
theorem sla_A : Statement .sla_A := fun _ => ⟨rfl, rfl, fun _ => .inl rfl⟩
theorem sra_B : Statement .sra_B := fun _ => ⟨rfl, rfl, fun _ => .inl rfl⟩
theorem sra_C : Statement .sra_C := fun _ => ⟨rfl, rfl, fun _ => .inl rfl⟩
theorem sra_D : Statement .sra_D := fun _ => ⟨rfl, rfl, fun _ => .inl rfl⟩
theorem sra_E : Statement .sra_E := fun _ => ⟨rfl, rfl, fun _ => .inl rfl⟩
theorem sra_H : Statement .sra_H := fun _ => ⟨rfl, rfl, fun _ => .inl rfl⟩
theorem sra_L : Statement .sra_L := fun _ => ⟨rfl, rfl, fun _ => .inl rfl⟩
theorem sra_mHL : Statement .sra_mHL := fun _ => ⟨rfl, rfl, fun _ => .inl rfl⟩
theorem sra_A : Statement .sra_A := fun _ => ⟨rfl, rfl, fun _ => .inl rfl⟩
theorem swap_B : Statement .swap_B := fun _ => ⟨rfl, rfl, fun _ => .inl rfl⟩
theorem swap_C : Statement .swap_C := fun _ => ⟨rfl, rfl, fun _ => .inl rfl⟩
theorem swap_D : Statement .swap_D := fun _ => ⟨rfl, rfl, fun _ => .inl rfl⟩
theorem swap_E : Statement .swap_E := fun _ => ⟨rfl, rfl, fun _ => .inl rfl⟩
theorem swap_H : Statement .swap_H := fun _ => ⟨rfl, rfl, fun _ => .inl rfl⟩
theorem swap_L : Statement .swap_L := fun _ => ⟨rfl, rfl, fun _ => .inl rfl⟩
theorem swap_mHL : Statement .swap_mHL := fun _ => ⟨rfl, rfl, fun _ => .inl rfl⟩
theorem swap_A : Statement .swap_A := fun _ => ⟨rfl, rfl, fun _ => .inl rfl⟩
theorem srl_B : Statement .srl_B := fun _ => ⟨rfl, rfl, fun _ => .inl rfl⟩
theorem srl_C : Statement .srl_C := fun _ => ⟨rfl, rfl, fun _ => .inl rfl⟩
theorem srl_D : Statement .srl_D := fun _ => ⟨rfl, rfl, fun _ => .inl rfl⟩
theorem srl_E : Statement .srl_E := fun _ => ⟨rfl, rfl, fun _ => .inl rfl⟩
theorem srl_H : Statement .srl_H := fun _ => ⟨rfl, rfl, fun _ => .inl rfl⟩
theorem srl_L : Statement .srl_L := fun _ => ⟨rfl, rfl, fun _ => .inl rfl⟩
theorem srl_mHL : Statement .srl_mHL := fun _ => ⟨rfl, rfl, fun _ => .inl rfl⟩
theorem srl_A : Statement .srl_A := fun _ => ⟨rfl, rfl, fun _ => .inl rfl⟩
theorem bit_0_B : Statement .bit_0_B := fun _ => ⟨rfl, rfl, fun _ => .inl rfl⟩
theorem bit_0_C : Statement .bit_0_C := fun _ => ⟨rfl, rfl, fun _ => .inl rfl⟩
theorem bit_0_D : Statement .bit_0_D := fun _ => ⟨rfl, rfl, fun _ => .inl rfl⟩
theorem bit_0_E : Statement .bit_0_E := fun _ => ⟨rfl, rfl, fun _ => .inl rfl⟩
theorem bit_0_H : Statement .bit_0_H := fun _ => ⟨rfl, rfl, fun _ => .inl rfl⟩
theorem bit_0_L : Statement .bit_0_L := fun _ => ⟨rfl, rfl, fun _ => .inl rfl⟩
theorem bit_0_mHL : Statement .bit_0_mHL := fun _ => ⟨rfl, rfl, fun _ => .inl rfl⟩
theorem bit_0_A : Statement .bit_0_A := fun _ => ⟨rfl, rfl, fun _ => .inl rfl⟩
theorem bit_1_B : Statement .bit_1_B := fun _ => ⟨rfl, rfl, fun _ => .inl rfl⟩
theorem bit_1_C : Statement .bit_1_C := fun _ => ⟨rfl, rfl, fun _ => .inl rfl⟩
theorem bit_1_D : Statement .bit_1_D := fun _ => ⟨rfl, rfl, fun _ => .inl rfl⟩
theorem bit_1_E : Statement .bit_1_E := fun _ => ⟨rfl, rfl, fun _ => .inl rfl⟩
theorem bit_1_H : Statement .bit_1_H := fun _ => ⟨rfl, rfl, fun _ => .inl rfl⟩
theorem bit_1_L : Statement .bit_1_L := fun _ => ⟨rfl, rfl, fun _ => .inl rfl⟩
theorem bit_1_mHL : Statement .bit_1_mHL := fun _ => ⟨rfl, rfl, fun _ => .inl rfl⟩
theorem bit_1_A : Statement .bit_1_A := fun _ => ⟨rfl, rfl, fun _ => .inl rfl⟩
theorem bit_2_B : Statement .bit_2_B := fun _ => ⟨rfl, rfl, fun _ => .inl rfl⟩
theorem bit_2_C : Statement .bit_2_C := fun _ => ⟨rfl, rfl, fun _ => .inl rfl⟩
theorem bit_2_D : Statement .bit_2_D := fun _ => ⟨rfl, rfl, fun _ => .inl rfl⟩
theorem bit_2_E : Statement .bit_2_E := fun _ => ⟨rfl, rfl, fun _ => .inl rfl⟩
theorem bit_2_H : Statement .bit_2_H := fun _ => ⟨rfl, rfl, fun _ => .inl rfl⟩
theorem bit_2_L : Statement .bit_2_L := fun _ => ⟨rfl, rfl, fun _ => .inl rfl⟩
theorem bit_2_mHL : Statement .bit_2_mHL := fun _ => ⟨rfl, rfl, fun _ => .inl rfl⟩
theorem bit_2_A : Statement .bit_2_A := fun _ => ⟨rfl, rfl, fun _ => .inl rfl⟩
theorem bit_3_B : Statement .bit_3_B := fun _ => ⟨rfl, rfl, fun _ => .inl rfl⟩
theorem bit_3_C : Statement .bit_3_C := fun _ => ⟨rfl, rfl, fun _ => .inl rfl⟩
theorem bit_3_D : Statement .bit_3_D := fun _ => ⟨rfl, rfl, fun _ => .inl rfl⟩
theorem bit_3_E : Statement .bit_3_E := fun _ => ⟨rfl, rfl, fun _ => .inl rfl⟩
theorem bit_3_H : Statement .bit_3_H := fun _ => ⟨rfl, rfl, fun _ => .inl rfl⟩
theorem bit_3_L : Statement .bit_3_L := fun _ => ⟨rfl, rfl, fun _ => .inl rfl⟩
theorem bit_3_mHL : Statement .bit_3_mHL := fun _ => ⟨rfl, rfl, fun _ => .inl rfl⟩
theorem bit_3_A : Statement .bit_3_A := fun _ => ⟨rfl, rfl, fun _ => .inl rfl⟩
theorem bit_4_B : Statement .bit_4_B := fun _ => ⟨rfl, rfl, fun _ => .inl rfl⟩
theorem bit_4_C : Statement .bit_4_C := fun _ => ⟨rfl, rfl, fun _ => .inl rfl⟩
theorem bit_4_D : Statement .bit_4_D := fun _ => ⟨rfl, rfl, fun _ => .inl rfl⟩
theorem bit_4_E : Statement .bit_4_E := fun _ => ⟨rfl, rfl, fun _ => .inl rfl⟩
theorem bit_4_H : Statement .bit_4_H := fun _ => ⟨rfl, rfl, fun _ => .inl rfl⟩
theorem bit_4_L : Statement .bit_4_L := fun _ => ⟨rfl, rfl, fun _ => .inl rfl⟩
theorem bit_4_mHL : Statement .bit_4_mHL := fun _ => ⟨rfl, rfl, fun _ => .inl rfl⟩
theorem bit_4_A : Statement .bit_4_A := fun _ => ⟨rfl, rfl, fun _ => .inl rfl⟩
theorem bit_5_B : Statement .bit_5_B := fun _ => ⟨rfl, rfl, fun _ => .inl rfl⟩
theorem bit_5_C : Statement .bit_5_C := fun _ => ⟨rfl, rfl, fun _ => .inl rfl⟩
theorem bit_5_D : Statement .bit_5_D := fun _ => ⟨rfl, rfl, fun _ => .inl rfl⟩
theorem bit_5_E : Statement .bit_5_E := fun _ => ⟨rfl, rfl, fun _ => .inl rfl⟩
theorem bit_5_H : Statement .bit_5_H := fun _ => ⟨rfl, rfl, fun _ => .inl rfl⟩
theorem bit_5_L : Statement .bit_5_L := fun _ => ⟨rfl, rfl, fun _ => .inl rfl⟩
theorem bit_5_mHL : Statement .bit_5_mHL := fun _ => ⟨rfl, rfl, fun _ => .inl rfl⟩
theorem bit_5_A : Statement .bit_5_A := fun _ => ⟨rfl, rfl, fun _ => .inl rfl⟩
theorem bit_6_B : Statement .bit_6_B := fun _ => ⟨rfl, rfl, fun _ => .inl rfl⟩
theorem bit_6_C : Statement .bit_6_C := fun _ => ⟨rfl, rfl, fun _ => .inl rfl⟩
theorem bit_6_D : Statement .bit_6_D := fun _ => ⟨rfl, rfl, fun _ => .inl rfl⟩
theorem bit_6_E : Statement .bit_6_E := fun _ => ⟨rfl, rfl, fun _ => .inl rfl⟩
theorem bit_6_H : Statement .bit_6_H := fun _ => ⟨rfl, rfl, fun _ => .inl rfl⟩
theorem bit_6_L : Statement .bit_6_L := fun _ => ⟨rfl, rfl, fun _ => .inl rfl⟩
theorem bit_6_mHL : Statement .bit_6_mHL := fun _ => ⟨rfl, rfl, fun _ => .inl rfl⟩
theorem bit_6_A : Statement .bit_6_A := fun _ => ⟨rfl, rfl, fun _ => .inl rfl⟩
theorem bit_7_B : Statement .bit_7_B := fun _ => ⟨rfl, rfl, fun _ => .inl rfl⟩
theorem bit_7_C : Statement .bit_7_C := fun _ => ⟨rfl, rfl, fun _ => .inl rfl⟩
theorem bit_7_D : Statement .bit_7_D := fun _ => ⟨rfl, rfl, fun _ => .inl rfl⟩
theorem bit_7_E : Statement .bit_7_E := fun _ => ⟨rfl, rfl, fun _ => .inl rfl⟩
theorem bit_7_H : Statement .bit_7_H := fun _ => ⟨rfl, rfl, fun _ => .inl rfl⟩
theorem bit_7_L : Statement .bit_7_L := fun _ => ⟨rfl, rfl, fun _ => .inl rfl⟩
theorem bit_7_mHL : Statement .bit_7_mHL := fun _ => ⟨rfl, rfl, fun _ => .inl rfl⟩
theorem bit_7_A : Statement .bit_7_A := fun _ => ⟨rfl, rfl, fun _ => .inl rfl⟩
theorem res_0_B : Statement .res_0_B := fun _ => ⟨rfl, rfl, fun _ => .inl rfl⟩
theorem res_0_C : Statement .res_0_C := fun _ => ⟨rfl, rfl, fun _ => .inl rfl⟩
theorem res_0_D : Statement .res_0_D := fun _ => ⟨rfl, rfl, fun _ => .inl rfl⟩
theorem res_0_E : Statement .res_0_E := fun _ => ⟨rfl, rfl, fun _ => .inl rfl⟩
theorem res_0_H : Statement .res_0_H := fun _ => ⟨rfl, rfl, fun _ => .inl rfl⟩
theorem res_0_L : Statement .res_0_L := fun _ => ⟨rfl, rfl, fun _ => .inl rfl⟩
theorem res_0_mHL : Statement .res_0_mHL := fun _ => ⟨rfl, rfl, fun _ => .inl rfl⟩
theorem res_0_A : Statement .res_0_A := fun _ => ⟨rfl, rfl, fun _ => .inl rfl⟩
theorem res_1_B : Statement .res_1_B := fun _ => ⟨rfl, rfl, fun _ => .inl rfl⟩
theorem res_1_C : Statement .res_1_C := fun _ => ⟨rfl, rfl, fun _ => .inl rfl⟩
theorem res_1_D : Statement .res_1_D := fun _ => ⟨rfl, rfl, fun _ => .inl rfl⟩
theorem res_1_E : Statement .res_1_E := fun _ => ⟨rfl, rfl, fun _ => .inl rfl⟩
theorem res_1_H : Statement .res_1_H := fun _ => ⟨rfl, rfl, fun _ => .inl rfl⟩
theorem res_1_L : Statement .res_1_L := fun _ => ⟨rfl, rfl, fun _ => .inl rfl⟩
theorem res_1_mHL : Statement .res_1_mHL := fun _ => ⟨rfl, rfl, fun _ => .inl rfl⟩
theorem res_1_A : Statement .res_1_A := fun _ => ⟨rfl, rfl, fun _ => .inl rfl⟩
theorem res_2_B : Statement .res_2_B := fun _ => ⟨rfl, rfl, fun _ => .inl rfl⟩
theorem res_2_C : Statement .res_2_C := fun _ => ⟨rfl, rfl, fun _ => .inl rfl⟩
theorem res_2_D : Statement .res_2_D := fun _ => ⟨rfl, rfl, fun _ => .inl rfl⟩
theorem res_2_E : Statement .res_2_E := fun _ => ⟨rfl, rfl, fun _ => .inl rfl⟩
theorem res_2_H : Statement .res_2_H := fun _ => ⟨rfl, rfl, fun _ => .inl rfl⟩
theorem res_2_L : Statement .res_2_L := fun _ => ⟨rfl, rfl, fun _ => .inl rfl⟩
theorem res_2_mHL : Statement .res_2_mHL := fun _ => ⟨rfl, rfl, fun _ => .inl rfl⟩
theorem res_2_A : Statement .res_2_A := fun _ => ⟨rfl, rfl, fun _ => .inl rfl⟩
theorem res_3_B : Statement .res_3_B := fun _ => ⟨rfl, rfl, fun _ => .inl rfl⟩
theorem res_3_C : Statement .res_3_C := fun _ => ⟨rfl, rfl, fun _ => .inl rfl⟩
theorem res_3_D : Statement .res_3_D := fun _ => ⟨rfl, rfl, fun _ => .inl rfl⟩
theorem res_3_E : Statement .res_3_E := fun _ => ⟨rfl, rfl, fun _ => .inl rfl⟩
theorem res_3_H : Statement .res_3_H := fun _ => ⟨rfl, rfl, fun _ => .inl rfl⟩
theorem res_3_L : Statement .res_3_L := fun _ => ⟨rfl, rfl, fun _ => .inl rfl⟩
theorem res_3_mHL : Statement .res_3_mHL := fun _ => ⟨rfl, rfl, fun _ => .inl rfl⟩
theorem res_3_A : Statement .res_3_A := fun _ => ⟨rfl, rfl, fun _ => .inl rfl⟩
theorem res_4_B : Statement .res_4_B := fun _ => ⟨rfl, rfl, fun _ => .inl rfl⟩
theorem res_4_C : Statement .res_4_C := fun _ => ⟨rfl, rfl, fun _ => .inl rfl⟩
theorem res_4_D : Statement .res_4_D := fun _ => ⟨rfl, rfl, fun _ => .inl rfl⟩
theorem res_4_E : Statement .res_4_E := fun _ => ⟨rfl, rfl, fun _ => .inl rfl⟩
theorem res_4_H : Statement .res_4_H := fun _ => ⟨rfl, rfl, fun _ => .inl rfl⟩
theorem res_4_L : Statement .res_4_L := fun _ => ⟨rfl, rfl, fun _ => .inl rfl⟩
theorem res_4_mHL : Statement .res_4_mHL := fun _ => ⟨rfl, rfl, fun _ => .inl rfl⟩
theorem res_4_A : Statement .res_4_A := fun _ => ⟨rfl, rfl, fun _ => .inl rfl⟩
theorem res_5_B : Statement .res_5_B := fun _ => ⟨rfl, rfl, fun _ => .inl rfl⟩
theorem res_5_C : Statement .res_5_C := fun _ => ⟨rfl, rfl, fun _ => .inl rfl⟩
theorem res_5_D : Statement .res_5_D := fun _ => ⟨rfl, rfl, fun _ => .inl rfl⟩
theorem res_5_E : Statement .res_5_E := fun _ => ⟨rfl, rfl, fun _ => .inl rfl⟩
theorem res_5_H : Statement .res_5_H := fun _ => ⟨rfl, rfl, fun _ => .inl rfl⟩
theorem res_5_L : Statement .res_5_L := fun _ => ⟨rfl, rfl, fun _ => .inl rfl⟩
theorem res_5_mHL : Statement .res_5_mHL := fun _ => ⟨rfl, rfl, fun _ => .inl rfl⟩
theorem res_5_A : Statement .res_5_A := fun _ => ⟨rfl, rfl, fun _ => .inl rfl⟩
theorem res_6_B : Statement .res_6_B := fun _ => ⟨rfl, rfl, fun _ => .inl rfl⟩
theorem res_6_C : Statement .res_6_C := fun _ => ⟨rfl, rfl, fun _ => .inl rfl⟩
theorem res_6_D : Statement .res_6_D := fun _ => ⟨rfl, rfl, fun _ => .inl rfl⟩
theorem res_6_E : Statement .res_6_E := fun _ => ⟨rfl, rfl, fun _ => .inl rfl⟩
theorem res_6_H : Statement .res_6_H := fun _ => ⟨rfl, rfl, fun _ => .inl rfl⟩
theorem res_6_L : Statement .res_6_L := fun _ => ⟨rfl, rfl, fun _ => .inl rfl⟩
theorem res_6_mHL : Statement .res_6_mHL := fun _ => ⟨rfl, rfl, fun _ => .inl rfl⟩
theorem res_6_A : Statement .res_6_A := fun _ => ⟨rfl, rfl, fun _ => .inl rfl⟩
theorem res_7_B : Statement .res_7_B := fun _ => ⟨rfl, rfl, fun _ => .inl rfl⟩
theorem res_7_C : Statement .res_7_C := fun _ => ⟨rfl, rfl, fun _ => .inl rfl⟩
theorem res_7_D : Statement .res_7_D := fun _ => ⟨rfl, rfl, fun _ => .inl rfl⟩
theorem res_7_E : Statement .res_7_E := fun _ => ⟨rfl, rfl, fun _ => .inl rfl⟩
theorem res_7_H : Statement .res_7_H := fun _ => ⟨rfl, rfl, fun _ => .inl rfl⟩
theorem res_7_L : Statement .res_7_L := fun _ => ⟨rfl, rfl, fun _ => .inl rfl⟩
theorem res_7_mHL : Statement .res_7_mHL := fun _ => ⟨rfl, rfl, fun _ => .inl rfl⟩
theorem res_7_A : Statement .res_7_A := fun _ => ⟨rfl, rfl, fun _ => .inl rfl⟩
theorem set_0_B : Statement .set_0_B := fun _ => ⟨rfl, rfl, fun _ => .inl rfl⟩
theorem set_0_C : Statement .set_0_C := fun _ => ⟨rfl, rfl, fun _ => .inl rfl⟩
theorem set_0_D : Statement .set_0_D := fun _ => ⟨rfl, rfl, fun _ => .inl rfl⟩
theorem set_0_E : Statement .set_0_E := fun _ => ⟨rfl, rfl, fun _ => .inl rfl⟩
theorem set_0_H : Statement .set_0_H := fun _ => ⟨rfl, rfl, fun _ => .inl rfl⟩
theorem set_0_L : Statement .set_0_L := fun _ => ⟨rfl, rfl, fun _ => .inl rfl⟩
theorem set_0_mHL : Statement .set_0_mHL := fun _ => ⟨rfl, rfl, fun _ => .inl rfl⟩
theorem set_0_A : Statement .set_0_A := fun _ => ⟨rfl, rfl, fun _ => .inl rfl⟩
theorem set_1_B : Statement .set_1_B := fun _ => ⟨rfl, rfl, fun _ => .inl rfl⟩
theorem set_1_C : Statement .set_1_C := fun _ => ⟨rfl, rfl, fun _ => .inl rfl⟩
theorem set_1_D : Statement .set_1_D := fun _ => ⟨rfl, rfl, fun _ => .inl rfl⟩
theorem set_1_E : Statement .set_1_E := fun _ => ⟨rfl, rfl, fun _ => .inl rfl⟩
theorem set_1_H : Statement .set_1_H := fun _ => ⟨rfl, rfl, fun _ => .inl rfl⟩
theorem set_1_L : Statement .set_1_L := fun _ => ⟨rfl, rfl, fun _ => .inl rfl⟩
theorem set_1_mHL : Statement .set_1_mHL := fun _ => ⟨rfl, rfl, fun _ => .inl rfl⟩
theorem set_1_A : Statement .set_1_A := fun _ => ⟨rfl, rfl, fun _ => .inl rfl⟩
theorem set_2_B : Statement .set_2_B := fun _ => ⟨rfl, rfl, fun _ => .inl rfl⟩
theorem set_2_C : Statement .set_2_C := fun _ => ⟨rfl, rfl, fun _ => .inl rfl⟩
theorem set_2_D : Statement .set_2_D := fun _ => ⟨rfl, rfl, fun _ => .inl rfl⟩
theorem set_2_E : Statement .set_2_E := fun _ => ⟨rfl, rfl, fun _ => .inl rfl⟩
theorem set_2_H : Statement .set_2_H := fun _ => ⟨rfl, rfl, fun _ => .inl rfl⟩
theorem set_2_L : Statement .set_2_L := fun _ => ⟨rfl, rfl, fun _ => .inl rfl⟩
theorem set_2_mHL : Statement .set_2_mHL := fun _ => ⟨rfl, rfl, fun _ => .inl rfl⟩
theorem set_2_A : Statement .set_2_A := fun _ => ⟨rfl, rfl, fun _ => .inl rfl⟩
theorem set_3_B : Statement .set_3_B := fun _ => ⟨rfl, rfl, fun _ => .inl rfl⟩
theorem set_3_C : Statement .set_3_C := fun _ => ⟨rfl, rfl, fun _ => .inl rfl⟩
theorem set_3_D : Statement .set_3_D := fun _ => ⟨rfl, rfl, fun _ => .inl rfl⟩
theorem set_3_E : Statement .set_3_E := fun _ => ⟨rfl, rfl, fun _ => .inl rfl⟩
theorem set_3_H : Statement .set_3_H := fun _ => ⟨rfl, rfl, fun _ => .inl rfl⟩
theorem set_3_L : Statement .set_3_L := fun _ => ⟨rfl, rfl, fun _ => .inl rfl⟩
theorem set_3_mHL : Statement .set_3_mHL := fun _ => ⟨rfl, rfl, fun _ => .inl rfl⟩
theorem set_3_A : Statement .set_3_A := fun _ => ⟨rfl, rfl, fun _ => .inl rfl⟩
theorem set_4_B : Statement .set_4_B := fun _ => ⟨rfl, rfl, fun _ => .inl rfl⟩
theorem set_4_C : Statement .set_4_C := fun _ => ⟨rfl, rfl, fun _ => .inl rfl⟩
theorem set_4_D : Statement .set_4_D := fun _ => ⟨rfl, rfl, fun _ => .inl rfl⟩
theorem set_4_E : Statement .set_4_E := fun _ => ⟨rfl, rfl, fun _ => .inl rfl⟩
theorem set_4_H : Statement .set_4_H := fun _ => ⟨rfl, rfl, fun _ => .inl rfl⟩
theorem set_4_L : Statement .set_4_L := fun _ => ⟨rfl, rfl, fun _ => .inl rfl⟩
theorem set_4_mHL : Statement .set_4_mHL := fun _ => ⟨rfl, rfl, fun _ => .inl rfl⟩
theorem set_4_A : Statement .set_4_A := fun _ => ⟨rfl, rfl, fun _ => .inl rfl⟩
theorem set_5_B : Statement .set_5_B := fun _ => ⟨rfl, rfl, fun _ => .inl rfl⟩
theorem set_5_C : Statement .set_5_C := fun _ => ⟨rfl, rfl, fun _ => .inl rfl⟩
theorem set_5_D : Statement .set_5_D := fun _ => ⟨rfl, rfl, fun _ => .inl rfl⟩
theorem set_5_E : Statement .set_5_E := fun _ => ⟨rfl, rfl, fun _ => .inl rfl⟩
theorem set_5_H : Statement .set_5_H := fun _ => ⟨rfl, rfl, fun _ => .inl rfl⟩
theorem set_5_L : Statement .set_5_L := fun _ => ⟨rfl, rfl, fun _ => .inl rfl⟩
theorem set_5_mHL : Statement .set_5_mHL := fun _ => ⟨rfl, rfl, fun _ => .inl rfl⟩
theorem set_5_A : Statement .set_5_A := fun _ => ⟨rfl, rfl, fun _ => .inl rfl⟩
theorem set_6_B : Statement .set_6_B := fun _ => ⟨rfl, rfl, fun _ => .inl rfl⟩
theorem set_6_C : Statement .set_6_C := fun _ => ⟨rfl, rfl, fun _ => .inl rfl⟩
theorem set_6_D : Statement .set_6_D := fun _ => ⟨rfl, rfl, fun _ => .inl rfl⟩
theorem set_6_E : Statement .set_6_E := fun _ => ⟨rfl, rfl, fun _ => .inl rfl⟩
theorem set_6_H : Statement .set_6_H := fun _ => ⟨rfl, rfl, fun _ => .inl rfl⟩
theorem set_6_L : Statement .set_6_L := fun _ => ⟨rfl, rfl, fun _ => .inl rfl⟩
theorem set_6_mHL : Statement .set_6_mHL := fun _ => ⟨rfl, rfl, fun _ => .inl rfl⟩
theorem set_6_A : Statement .set_6_A := fun _ => ⟨rfl, rfl, fun _ => .inl rfl⟩
theorem set_7_B : Statement .set_7_B := fun _ => ⟨rfl, rfl, fun _ => .inl rfl⟩
theorem set_7_C : Statement .set_7_C := fun _ => ⟨rfl, rfl, fun _ => .inl rfl⟩
theorem set_7_D : Statement .set_7_D := fun _ => ⟨rfl, rfl, fun _ => .inl rfl⟩
theorem set_7_E : Statement .set_7_E := fun _ => ⟨rfl, rfl, fun _ => .inl rfl⟩
theorem set_7_H : Statement .set_7_H := fun _ => ⟨rfl, rfl, fun _ => .inl rfl⟩
theorem set_7_L : Statement .set_7_L := fun _ => ⟨rfl, rfl, fun _ => .inl rfl⟩
theorem set_7_mHL : Statement .set_7_mHL := fun _ => ⟨rfl, rfl, fun _ => .inl rfl⟩
theorem set_7_A : Statement .set_7_A := fun _ => ⟨rfl, rfl, fun _ => .inl rfl⟩

end Encoding

end Sys2Proof.Laws
end

