-- ==== Sys2Proof/Laws/Seq.lean ====
section
/-! SUPPORT. Running a primitive sequence, a store seen from the other blocks, and how exec answers: the lemmas
a proof about one instruction cites instead of unfolding. -/

namespace Sys2Proof.Machine

section run
variable (s : State) (f : State → State) (cc : Cond) (rest : List Micro)
@[simp] theorem runRest_nil : runRest [] s = s := rfl
@[simp] theorem runRest_of : runRest (Micro.of f :: rest) s = runRest rest (f (nextCycle s)) := rfl
@[simp] theorem runRest_idle : runRest (Micro.idle :: rest) s = runRest rest (nextCycle s) := rfl
@[simp] theorem runRest_unless : runRest (Micro.unless id cc :: rest) s
    = if s.regs.holds cc then runRest rest (nextCycle s) else nextCycle s := by
  rw [runRest]
  simp only [Micro.unless, id, nextCycle_regs]
  by_cases h : s.regs.holds cc = true <;> simp [h]
@[simp] theorem runSeq_nil : runSeq [] s = s := rfl
@[simp] theorem runSeq_of : runSeq (Micro.of f :: rest) s = runRest rest (f s) := rfl
@[simp] theorem runSeq_idle : runSeq (Micro.idle :: rest) s = runRest rest s := rfl
@[simp] theorem runSeq_unless : runSeq (Micro.unless id cc :: rest) s
    = if s.regs.holds cc then runRest rest s else s := by
  rw [runSeq]
  simp only [Micro.unless, id]
  by_cases h : s.regs.holds cc = true <;> simp [h]
end run

/-- Internal cycles in front of a sequence are machine cycles with nothing of the processor's in them. -/
theorem runRest_replicate_idle (n : Nat) (rest : List Micro) (s : State) :
    runRest (List.replicate n Micro.idle ++ rest) s = runRest rest (idleCycles n s) := by
  induction n generalizing s with
  | zero => rfl
  | succ n ih => rw [List.replicate_succ, List.cons_append, runRest_idle, ih]; rfl

/-- Interrupt entry takes `IRQ_ENTRY_CYCLES` cycles, at least the four that do something. -/
theorem irqSeq_length (n : Nat) : (irqSeq n).length = max 4 n := by
  simp only [irqSeq, List.length_cons, List.length_append, List.length_replicate, List.length_nil]
  omega

/-- Interrupt entry: the selection, the internal cycles, the two pushes and the jump. -/
theorem takeInterrupt_eq (s : State) :
    takeInterrupt s = irqJump (nextCycle (pushPcLow (nextCycle (pushPcHigh
      (nextCycle (idleCycles (s.cfg.irqEntryCycles - 4) (irqSelect s))))))) := by
  rw [takeInterrupt, irqSeq, runSeq_of, runRest_replicate_idle, runRest_of, runRest_of, runRest_of, runRest_nil]

/-- The one instruction whose form is `undefined` carries its byte. -/
theorem form_undefined {i : Instr} (h : i.form = .undefined) : ∃ op, i = .undefined op := by
  cases i
  case undefined op => exact ⟨op, rfl⟩
  all_goals exact absurd h (by intro h'; cases h')

/-- The prefix is the one instruction of its form. -/
theorem form_prefix {i : Instr} (h : i.form = .prefixCb) : i = .prefix_CB := by
  cases i
  case prefix_CB => rfl
  all_goals exact absurd h (by intro h'; cases h')

section write
variable {x : Regs} {c : Cpu}

theorem oamCopy_withProc (src : Word) (n i : Nat) {s : State} (h : SameSpeed c s.cpu) :
    oamCopy src n i (s.withProc x c) = (oamCopy src n i s).withProc x c := by
  induction n generalizing i s with
  | zero => rfl
  | succ n ih =>
    rw [oamCopy, oamCopy, memRead_withProc h, ← ih (i + 1) (s := writeOam s i _) h]
    rfl

theorem writeLcdc_withProc (s : State) (v : Byte) :
    writeLcdc (s.withProc x c) v = (writeLcdc s v).withProc x c := by
  unfold writeLcdc
  dsimp only
  rw [show (s.withProc x c).ppu = s.ppu from rfl]
  split
  · rfl
  · split <;> rfl

/-- A Router write reads nothing of the processor but its speed bits, and writes only `speed_armed`. -/
theorem memWrite_withProc {s : State} (h : SameSpeed c s.cpu) (a : Word) (v : Byte) :
    memWrite (s.withProc x c) a v
      = (memWrite s a v).withProc x { c with speedArmed := (memWrite s a v).cpu.speedArmed } := by
  have hc : { c with speedArmed := s.cpu.speedArmed } = c := by rw [← h.armed]
  have key : ∀ t u : State, u = t.withProc x c → t.cpu = s.cpu →
      u = t.withProc x { c with speedArmed := t.cpu.speedArmed } := by
    intro t u hu ht; rw [ht, hc]; exact hu
  unfold memWrite
  rw [show handler (s.withProc x c) a = handler s a from rfl]
  generalize handler s a = q
  have low : ∀ off, writeLow (s.withProc x c) off v = (writeLow s off v).withProc x c
      ∧ (writeLow s off v).cpu = s.cpu := by
    intro off; unfold writeLow; split <;> exact ⟨rfl, rfl⟩
  have io : ∀ off, writeIo (s.withProc x c) off v
      = (writeIo s off v).withProc x { c with speedArmed := (writeIo s off v).cpu.speedArmed } := by
    intro off
    unfold writeIo
    split
    · exact key _ _ (low off).1 (low off).2
    · split
      · exact key _ _ rfl rfl
      · split
        · have hd := oamCopy_withProc (x := x) (c := c) (join v 0) 160 0
            (s := { s with dma := { s.dma with oamDmaSrc := v } }) h
          have hcpu : (writeDma s v).cpu = s.cpu := by
            have : ∀ n i (t : State), (oamCopy (join v 0) n i t).cpu = t.cpu := by
              intro n
              induction n with
              | zero => intro i t; rfl
              | succ n ih => intro i t; rw [oamCopy, ih]; rfl
            exact this 160 0 _
          exact key _ _ hd hcpu
        · split
          · have hp : writePpu (s.withProc x c) off v = (writePpu s off v).withProc x c
                ∧ (writePpu s off v).cpu = s.cpu := by
              unfold writePpu
              have hl : (writeLcdc s v).cpu = s.cpu := by
                unfold writeLcdc; dsimp only; split
                · rfl
                · split <;> rfl
              split <;> first | exact ⟨rfl, rfl⟩ | exact ⟨writeLcdc_withProc s v, hl⟩
            exact key _ _ hp.1 hp.2
          · split
            · exact key _ _ rfl rfl
            · rw [show (s.withProc x c).cfg = s.cfg from rfl]
              split
              · exact key _ _ rfl rfl
              · unfold writeCgb
                split
                · rfl
                · exact key _ _ rfl rfl
                · exact key _ _ rfl rfl
                · split <;> exact key _ _ rfl rfl
  cases q with
  | io off => exact io off
  | vram i =>
    unfold writeHandler
    dsimp only
    rw [show (s.withProc x c).ppu = s.ppu from rfl]
    split <;> exact key _ _ rfl rfl
  | oam i =>
    unfold writeHandler
    dsimp only
    rw [show (s.withProc x c).ppu = s.ppu from rfl]
    split <;> exact key _ _ rfl rfl
  | _ => exact key _ _ rfl rfl

/-- A write keeps the control state but for `speed_armed`. -/
theorem memWrite_cpu (s : State) (a : Word) (v : Byte) :
    (memWrite s a v).cpu = { s.cpu with speedArmed := (memWrite s a v).cpu.speedArmed } :=
  congrArg (fun q : Cpu => { q with speedArmed := (memWrite s a v).cpu.speedArmed })
    (congrArg Untouched.cpu (memWrite_untouched s a v))

theorem memWrite_withRegs (s : State) (a : Word) (v : Byte) :
    memWrite (s.withRegs x) a v = (memWrite s a v).withRegs x := by
  refine (memWrite_withProc (x := x) (c := s.cpu) (s := s) ⟨rfl, rfl⟩ a v).trans ?_
  rw [← memWrite_cpu]
  rfl

theorem memWrite_withCpu {s : State} (h : SameSpeed c s.cpu) (a : Word) (v : Byte) :
    memWrite (s.withCpu c) a v
      = (memWrite s a v).withCpu { c with speedArmed := (memWrite s a v).cpu.speedArmed } := by
  refine (memWrite_withProc (x := s.regs) (c := c) h a v).trans ?_
  rw [← memWrite_regs s a v]
  rfl

@[simp] theorem memWrite_withTmp8 (s : State) (w : Byte) (a : Word) (v : Byte) :
    memWrite (s.withTmp8 w) a v = (memWrite s a v).withTmp8 w := by
  refine (memWrite_withCpu (c := { s.cpu with tmp8 := w }) (s := s) ⟨rfl, rfl⟩ a v).trans ?_
  unfold State.withTmp8
  conv_rhs => rw [memWrite_cpu]

@[simp] theorem memWrite_withTmp16 (s : State) (w : Word) (a : Word) (v : Byte) :
    memWrite (s.withTmp16 w) a v = (memWrite s a v).withTmp16 w := by
  refine (memWrite_withCpu (c := { s.cpu with tmp16 := w }) (s := s) ⟨rfl, rfl⟩ a v).trans ?_
  unfold State.withTmp16
  conv_rhs => rw [memWrite_cpu]

@[simp] theorem memWrite_setSp (s : State) (w : Word) (a : Word) (v : Byte) :
    memWrite (s.setSp w) a v = (memWrite s a v).setSp w := by
  unfold State.setSp
  rw [memWrite_withRegs, memWrite_regs]

end write

section outside
variable (s : State)
@[simp] theorem withRegs_withRegs (x y : Regs) : (s.withRegs x).withRegs y = s.withRegs y := rfl
@[simp] theorem withRegs_same : s.withRegs s.regs = s := rfl
@[simp] theorem outside_withRegs (x : Regs) : (s.withRegs x).outside = s.outside := rfl
@[simp] theorem outside_setReg (r : Reg8) (v : Byte) : (s.setReg r v).outside = s.outside := rfl
@[simp] theorem outside_setSp (v : Word) : (s.setSp v).outside = s.outside := rfl
@[simp] theorem outside_setPc (v : Word) : (s.setPc v).outside = s.outside := rfl
@[simp] theorem outside_withFlags (q : Flagged) : (s.withFlags q).outside = s.outside := rfl
@[simp] theorem outside_withTmp8 (v : Byte) : (s.withTmp8 v).outside = s.outside := rfl
@[simp] theorem outside_withTmp16 (v : Word) : (s.withTmp16 v).outside = s.outside := rfl
end outside

end Sys2Proof.Machine
end

