-- ==== Sys2Proof/Laws/Sound.lean ====
section
/-! SUPPORT. What the operations of a length counter do to the number it holds, and that they keep its one form
(61_devices_ppu_apu.md R422 to R424, R431, R434; log 16); that the number pi of the filters is pi; and that the mono
output may be taken before or after the filters (R437, R438; log 19). -/

namespace Sys2Proof

/-- The number of the filters is at most 1 in the seventh decimal away from pi to 20 decimals. -/
theorem Config.abs_pi_sub_le : |Config.pi - 314159265358979323846 / 10 ^ 20| ≤ 1 / 10 ^ 7 := by
  have h : |max (-1) (min 1 Config.piRounding)| ≤ 1 :=
    abs_le.mpr ⟨le_max_left _ _, max_le (by norm_num) (min_le_left _ _)⟩
  rw [Config.pi, add_sub_cancel_left, abs_div, abs_of_pos (by norm_num : (0 : Rat) < 10 ^ 7)]
  gcongr

/-- The same of the real number pi. -/
theorem Config.abs_pi_sub_real_pi_le : |(Config.pi : ℝ) - Real.pi| ≤ 2 / 10 ^ 7 := by
  have h := (Rat.cast_le (K := ℝ)).mpr Config.abs_pi_sub_le
  push_cast at h
  have hl := Real.pi_gt_d20
  have hu := Real.pi_lt_d20
  rw [abs_le] at h ⊢
  constructor <;> linarith [h.1, h.2]

theorem Config.pi_pos : 0 < Config.pi := by
  have h := (abs_le.mp Config.abs_pi_sub_le).1
  linarith

end Sys2Proof

namespace Sys2Proof.Machine

/-- The low-pass filter of the mono output is the mono output of the low-pass filters. -/
theorem lowPass_monoOf (cfg : Config) (lp x : Rat × Rat) :
    lowPass cfg (monoOf lp) (monoOf x) = monoOf (lowPass cfg lp.1 x.1, lowPass cfg lp.2 x.2) := by
  unfold lowPass monoOf
  ring

/-- The high-pass filter of the mono output is the mono output of the high-pass filters. -/
theorem highPass_monoOf (cfg : Config) (y lp lp' : Rat × Rat) :
    highPass cfg (monoOf y) (monoOf lp) (monoOf lp')
      = monoOf (highPass cfg y.1 lp.1 lp'.1, highPass cfg y.2 lp.2 lp'.2) := by
  unfold highPass monoOf
  ring

section
variable {w : Nat} (l : Length w)

@[simp] theorem Length.value_top : (Length.top : Length w).value = 2 ^ w := rfl
@[simp] theorem Length.value_zero : (Length.zero : Length w).value = 0 := by simp [value, zero]
@[simp] theorem Length.wf_top : (Length.top : Length w).wf = true := by simp [wf, top]
@[simp] theorem Length.wf_zero : (Length.zero : Length w).wf = true := by simp [wf, zero]
@[simp] theorem Length.wf_pred : l.pred.wf = true := by simp [wf, pred]

/-- A counter is expired exactly when the number it holds is 0. -/
theorem Length.expired_iff : l.expired = true ↔ l.value = 0 := by
  unfold expired value
  cases l.full
  · simp [← BitVec.toNat_inj]
  · simp

/-- The load of a field `n` is `2^w - n`. -/
theorem Length.value_load (n : BitVec w) : (Length.load n).value = 2 ^ w - n.toNat := by
  unfold load value
  by_cases h : n = 0
  · simp [h]
  · have h0 : n.toNat ≠ 0 := fun e => h (BitVec.eq_of_toNat_eq (by simpa using e))
    have hl := n.isLt
    simp only [h, decide_false, Bool.false_eq_true, if_false, BitVec.toNat_sub]
    rw [show (2 ^ w - n.toNat + (0 : BitVec w).toNat) = 2 ^ w - n.toNat by simp]
    exact Nat.mod_eq_of_lt (by omega)

theorem Length.wf_load (n : BitVec w) : (Length.load n).wf = true := by
  unfold load wf
  by_cases h : n = 0
  · subst h; simp
  · rw [decide_eq_false h]; rfl

/-- A trigger loads `2^w` into a counter at 0 and leaves any other. -/
theorem Length.value_trigger : l.trigger.value = if l.value = 0 then 2 ^ w else l.value := by
  unfold trigger
  by_cases h : l.expired = true
  · rw [if_pos h, if_pos ((expired_iff l).mp h)]; rfl
  · rw [if_neg h, if_neg (fun e => h ((expired_iff l).mpr e))]

theorem Length.wf_trigger (h : l.wf = true) : l.trigger.wf = true := by
  unfold trigger
  split
  · exact wf_top
  · exact h

/-- One below the number held, of a counter that is not 0. -/
theorem Length.value_pred (h : l.value ≠ 0) : l.pred.value = l.value - 1 := by
  unfold value at h ⊢
  unfold pred
  cases hf : l.full
  · simp only [hf, Bool.false_eq_true, if_false] at h ⊢
    have hl := l.count.isLt
    rw [BitVec.toNat_sub]
    rcases Nat.eq_zero_or_pos w with rfl | hw
    · omega
    · have h1 : (1 : BitVec w).toNat = 1 := by
        simpa using Nat.mod_eq_of_lt (Nat.one_lt_two_pow (by omega))
      rw [h1, show 2 ^ w - 1 + l.count.toNat = (l.count.toNat - 1) + 2 ^ w by omega, Nat.add_mod_right]
      exact Nat.mod_eq_of_lt (by omega)
  · simp only [if_true, Bool.false_eq_true, if_false]
    rcases Nat.eq_zero_or_pos w with rfl | hw
    · rfl
    · have h2 : 1 < 2 ^ w := Nat.one_lt_two_pow (by omega)
      have h1 : (1 : BitVec w).toNat = 1 := by simpa using Nat.mod_eq_of_lt h2
      rw [BitVec.toNat_sub, h1, show (0 : BitVec w).toNat = 0 by simp, Nat.add_zero]
      exact Nat.mod_eq_of_lt (by omega)

/-- The length clock takes one off an enabled counter that is not 0, and moves no other. -/
theorem Length.value_clock (en : Bool) :
    (l.clock en).value = if en = true ∧ l.value ≠ 0 then l.value - 1 else l.value := by
  unfold clock
  by_cases h : l.expired = true
  · have := (expired_iff l).mp h
    simp [h, this]
  · have hv : l.value ≠ 0 := fun e => h ((expired_iff l).mpr e)
    have he : l.expired = false := by simpa using h
    cases en <;> simp [he, hv, value_pred l hv]

theorem Length.wf_clock (en : Bool) (h : l.wf = true) : (l.clock en).wf = true := by
  unfold clock
  split
  · exact wf_pred l
  · exact h

/-- The clock that brings a counter from 1 to 0 is the one that disables the channel. -/
theorem Length.expires_iff (en : Bool) : l.expires en = true ↔ en = true ∧ l.value = 1 := by
  unfold expires
  by_cases h : l.value = 0
  · have := (expired_iff l).mpr h
    simp [this, h]
  · have he : l.expired = false := by
      cases hx : l.expired
      · rfl
      · exact absurd ((expired_iff l).mp hx) h
    simp only [he, Bool.not_false, Bool.and_true, Bool.and_eq_true, expired_iff, value_pred l h]
    constructor
    · rintro ⟨h1, h2⟩; exact ⟨h1, by omega⟩
    · rintro ⟨h1, h2⟩; exact ⟨h1, by omega⟩

end

end Sys2Proof.Machine
end

