-- ==== Sys2Proof/Tests/Slice0.lean ====
section
/-! SUPPORT. Tests: single steps with expected results from the vectors and traces of 95_test_vectors.md and the
rules, words from the encodings, ill-formed terms, and a witness for the hypotheses of every statement. -/

namespace Sys2Proof.Tests

set_option Elab.async false

open Sys2Proof Sys2Proof.Machine

/-! ## Well-formedness and decoding -/

/-- The one check of WellFormed refuses a byte that selects an instruction. -/
theorem test_wellFormed_refuses_defined_byte : (Instr.undefined 0x00).wellFormed = false := by decide

theorem test_wellFormed_refuses_prefix_byte : (Instr.undefined 0xCB).wellFormed = false := by decide

theorem test_wellFormed_accepts_undefined_byte : (Instr.undefined 0xD3).wellFormed = true := by decide

/-- `LD L,A`: 01 yyy zzz with y = 5, z = 7 (R128, R170). -/
theorem test_decode_ld_L_A : decode [0b01101111, 0xAA] = .instr .ld_L_A [0xAA] := by decide

/-- `LD C,n`: 00 001 110 (R127, R171). -/
theorem test_decode_ld_C_n : decode [0b00001110, 0x5A] = .instr (.ld_C_n 0x5A) [] := by decide

/-- `LD DE,nn`: 00 01 0001, low byte first (R122, R190). -/
theorem test_decode_ld_DE_nn : decode [0b00010001, 0x34, 0x12] = .instr (.ld_DE_nn 0x1234) [] := by decide

/-- `POP AF`: 11 11 0001 (R130, R194). -/
theorem test_decode_pop_AF : decode [0b11110001] = .instr .pop_AF [] := by decide

/-- `SUB n`: 11 010 110 (R130, R211). -/
theorem test_decode_sub_n : decode [0b11010110, 0x0F] = .instr (.sub_n 0x0F) [] := by decide

/-- `XOR (HL)`: 10 101 110 (R129, R219). -/
theorem test_decode_xor_mHL : decode [0b10101110] = .instr .xor_mHL [] := by decide

/-- `DEC SP`: 00 11 1011 (R127, R242). -/
theorem test_decode_dec_SP : decode [0b00111011] = .instr .dec_SP [] := by decide

/-- `SWAP E`: CB, 00 110 011 (R131, R263). -/
theorem test_decode_swap_E : decode [0xCB, 0b00110011] = .instr .swap_E [] := by decide

/-- `RES 5,B`: CB, 10 101 000 (R131, R269). -/
theorem test_decode_res_5_B : decode [0xCB, 0b10101000] = .instr .res_5_B [] := by decide

/-- `JR NC,e`: 00 110 000 (R127, R286). -/
theorem test_decode_jr_NC : decode [0b00110000, 0x80] = .instr (.jr_NC_e 0x80) [] := by decide

/-- `CALL C,nn`: 11 011 100 (R130, R288). -/
theorem test_decode_call_C : decode [0b11011100, 0x00, 0x20] = .instr (.call_C_nn 0x2000) [] := by decide

/-- `EI`: 11 111 011 (R130, R299). -/
theorem test_decode_ei : decode [0b11111011] = .instr .ei [] := by decide

/-- A sequence that stops short is rejected by name (R135). -/
theorem test_decode_truncated : decode [0x3E] = .truncated 0x3E := by decide

theorem test_decode_empty : decode [] = .noBytes := by decide

/-- The pad byte of `STOP` is ignored (R139). -/
theorem test_decode_stop_pad : decode [0x10, 0xD3] = .instr .stop [] := by decide

/-- A table word: first byte in bits 7 to 0 (R136); a second-table row has the prefix above (log 11). -/
theorem test_table_word : decodeTableWord 16 0x7F3E = some (.ld_A_n 0x7F)
    ∧ decodeTableWord 16 0xCB37 = some .swap_A ∧ decodeTableWord 8 0xCB = some .prefix_CB
    ∧ decodeTableWord 8 0xC3 = some (.jp_nn 0x0000) := by decide

/-! ## Single steps -/

/-- A register file of 0 with the stack pointer and program counter of part 1 of 95_test_vectors.md. -/
def testRegs : Regs := { Regs.zero with sp := 0xDFF0, pc := 0xC000 }

/-- The start state of the vectors: reset with the pipeline and interrupts off. -/
def testState (x : Regs) : State :=
  { State.reset with
    regs := x
    irq := { ie := 0, flags := 0 }
    ppu := { State.reset.ppu with lcdc := 0 } }

/-- Bytes at given addresses, from outside. -/
def testPlace : List (Word × Byte) → State → State
  | [], s => s
  | (a, v) :: rest, s => testPlace rest (poke s a v)

/-- Whether the state after one step satisfies a check. -/
def testNext (r : Answer) (check : State → Bool) : Bool :=
  match r with
  | .next t => check t
  | .fault _ => false
  | .refused _ => false

/-- One step from the start state with a register file, code at 0xC000 and data. -/
def testRun (x : Regs) (code : List Byte) (data : List (Word × Byte)) (check : State → Bool) : Bool :=
  testNext (step (testPlace data (pokeAll code 0xC000 (testState x)))) check

/-- V1, R170. -/
theorem test_V1_LD_B_A :
    testRun { testRegs with a := 0x5A } [0x47] []
      (fun t => t.regs.b == 0x5A && t.regs.a == 0x5A && t.regs.pc == 0xC001)
      = true := by decide +kernel

/-- V3, R171. -/
theorem test_V3_LD_E_0x9C :
    testRun testRegs [0x1E, 0x9C] []
      (fun t => t.regs.e == 0x9C && t.regs.pc == 0xC002)
      = true := by decide +kernel

/-- V4, R172. -/
theorem test_V4_LD_H_HL :
    testRun { testRegs with h := 0xC1, l := 0x23 } [0x66] [(0xC123, 0x77)]
      (fun t => t.regs.h == 0x77 && t.regs.l == 0x23)
      = true := by decide +kernel

/-- V5, R173. -/
theorem test_V5_LD_HL_L :
    testRun { testRegs with h := 0xC1, l := 0x23 } [0x75] []
      (fun t => memRead t 0xC123 == 0x23 && t.regs.h == 0xC1 && t.regs.l == 0x23)
      = true := by decide +kernel

/-- V6, R174. -/
theorem test_V6_LD_HL_0x42 :
    testRun { testRegs with h := 0xD0, l := 0x00 } [0x36, 0x42] []
      (fun t => memRead t 0xD000 == 0x42 && t.regs.pc == 0xC002)
      = true := by decide +kernel

/-- V7, R175. -/
theorem test_V7_LD_A_BC :
    testRun { testRegs with b := 0xD0, c := 0x10 } [0x0A] [(0xD010, 0xEE)]
      (fun t => t.regs.a == 0xEE)
      = true := by decide +kernel

/-- V8, R178. -/
theorem test_V8_LD_DE_A :
    testRun { testRegs with a := 0x3C, d := 0xD0, e := 0x20 } [0x12] []
      (fun t => memRead t 0xD020 == 0x3C)
      = true := by decide +kernel

/-- V9, R179. -/
theorem test_V9_LD_A_0xD123 :
    testRun testRegs [0xFA, 0x23, 0xD1] [(0xD123, 0xAB)]
      (fun t => t.regs.a == 0xAB && t.regs.pc == 0xC003)
      = true := by decide +kernel

/-- V10, R180. -/
theorem test_V10_LD_0xD124_A :
    testRun { testRegs with a := 0x99 } [0xEA, 0x24, 0xD1] []
      (fun t => memRead t 0xD124 == 0x99)
      = true := by decide +kernel

/-- V11, R183. -/
theorem test_V11_LDH_A_0x80 :
    testRun testRegs [0xF0, 0x80] [(0xFF80, 0x5D)]
      (fun t => t.regs.a == 0x5D)
      = true := by decide +kernel

/-- V12, R184. -/
theorem test_V12_LDH_0x81_A :
    testRun { testRegs with a := 0x6E } [0xE0, 0x81] []
      (fun t => memRead t 0xFF81 == 0x6E)
      = true := by decide +kernel

/-- V13, R181. -/
theorem test_V13_LDH_A_C :
    testRun { testRegs with c := 0x90 } [0xF2] [(0xFF90, 0x21)]
      (fun t => t.regs.a == 0x21)
      = true := by decide +kernel

/-- V14, R182. -/
theorem test_V14_LDH_C_A :
    testRun { testRegs with a := 0x22, c := 0x91 } [0xE2] []
      (fun t => memRead t 0xFF91 == 0x22)
      = true := by decide +kernel

/-- The example form of R187: the pointer moves up after the read. -/
theorem test_R187_LD_A_HLi :
    testRun { testRegs with h := 0xC1, l := 0xFF } [0x2A] [(0xC1FF, 0x3D)]
      (fun t => t.regs.a == 0x3D && t.regs.h == 0xC2 && t.regs.l == 0x00)
      = true := by decide +kernel

/-- V17, R185. -/
theorem test_V17_LD_A_HL :
    testRun { testRegs with h := 0xD0, l := 0x00 } [0x3A] [(0xD000, 0x44)]
      (fun t => t.regs.a == 0x44 && t.regs.h == 0xCF && t.regs.l == 0xFF)
      = true := by decide +kernel

/-- V18, R188. -/
theorem test_V18_LD_HL_A :
    testRun { testRegs with a := 0x55, h := 0xD0, l := 0xFF } [0x22] []
      (fun t => memRead t 0xD0FF == 0x55 && t.regs.h == 0xD1 && t.regs.l == 0x00)
      = true := by decide +kernel

/-- V19, R172. -/
theorem test_V19_LD_A_HL :
    testRun { testRegs with h := 0xE5, l := 0x55 } [0x7E] [(0xC555, 0x66)]
      (fun t => t.regs.a == 0x66)
      = true := by decide +kernel

/-- V30, R190. -/
theorem test_V30_LD_SP_0xD000 :
    testRun testRegs [0x31, 0x00, 0xD0] []
      (fun t => t.regs.sp == 0xD000 && t.regs.pc == 0xC003)
      = true := by decide +kernel

/-- V32, R191. -/
theorem test_V32_LD_0xD100_SP :
    testRun { testRegs with sp := 0xFFF8 } [0x08, 0x00, 0xD1] []
      (fun t => memRead t 0xD100 == 0xF8 && memRead t 0xD101 == 0xFF && t.regs.pc == 0xC003)
      = true := by decide +kernel

/-- V33, R192. -/
theorem test_V33_LD_SP_HL :
    testRun { testRegs with h := 0xCF, l := 0xFF } [0xF9] []
      (fun t => t.regs.sp == 0xCFFF)
      = true := by decide +kernel

/-- V34, R193. -/
theorem test_V34_PUSH_BC :
    testRun { testRegs with b := 0x12, c := 0x34 } [0xC5] []
      (fun t => t.regs.sp == 0xDFEE && memRead t 0xDFEF == 0x12 && memRead t 0xDFEE == 0x34)
      = true := by decide +kernel

/-- V36, R194. -/
theorem test_V36_POP_AF :
    testRun testRegs [0xF1] [(0xDFF0, 0xFF), (0xDFF1, 0x12)]
      (fun t => t.regs.a == 0x12 && t.regs.f == 0xF0 && t.regs.sp == 0xDFF2)
      = true := by decide +kernel

/-- V38, R193. -/
theorem test_V38_PUSH_DE :
    testRun { testRegs with d := 0x15, e := 0xA5, sp := 0x0001 } [0xD5] []
      (fun t => t.regs.sp == 0xFFFF && memRead t 0xFFFF == 0xE5)
      = true := by decide +kernel

/-- V39, R195. -/
theorem test_V39_LD_HL_SP_0x02 :
    testRun { testRegs with sp := 0xFFF8, f := 0xF0 } [0xF8, 0x02] []
      (fun t => t.regs.h == 0xFF && t.regs.l == 0xFA && t.regs.sp == 0xFFF8 && t.regs.f == 0x00)
      = true := by decide +kernel

/-- V41, R195. -/
theorem test_V41_LD_HL_SP_1 :
    testRun { testRegs with sp := 0xD0FF } [0xF8, 0xFF] []
      (fun t => t.regs.h == 0xD0 && t.regs.l == 0xFE && t.regs.f == 0x30)
      = true := by decide +kernel

/-- V50, R203. -/
theorem test_V50_ADD_A_B :
    testRun { testRegs with a := 0x3A, b := 0xC6 } [0x80] []
      (fun t => t.regs.a == 0x00 && t.regs.f == 0xB0)
      = true := by decide +kernel

/-- V53, R206. -/
theorem test_V53_ADC_A_E :
    testRun { testRegs with a := 0xE1, e := 0x0F, f := 0x10 } [0x8B] []
      (fun t => t.regs.a == 0xF1 && t.regs.f == 0x20)
      = true := by decide +kernel

/-- V54, R208. -/
theorem test_V54_ADC_A_0x00 :
    testRun { testRegs with a := 0xFF, f := 0x10 } [0xCE, 0x00] []
      (fun t => t.regs.a == 0x00 && t.regs.f == 0xB0)
      = true := by decide +kernel

/-- V57, R211. -/
theorem test_V57_SUB_0x0F :
    testRun { testRegs with a := 0x3E } [0xD6, 0x0F] []
      (fun t => t.regs.a == 0x2F && t.regs.f == 0x60)
      = true := by decide +kernel

/-- V58, R210. -/
theorem test_V58_SUB_HL :
    testRun { testRegs with a := 0x3E, h := 0xD0, l := 0x00 } [0x96] [(0xD000, 0x40)]
      (fun t => t.regs.a == 0xFE && t.regs.f == 0x50)
      = true := by decide +kernel

/-- V60, R212. -/
theorem test_V60_SBC_A_A :
    testRun { testRegs with a := 0x77, f := 0x10 } [0x9F] []
      (fun t => t.regs.a == 0xFF && t.regs.f == 0x70)
      = true := by decide +kernel

/-- V62, R215. -/
theorem test_V62_AND_L :
    testRun { testRegs with a := 0x5A, l := 0x3F } [0xA5] []
      (fun t => t.regs.a == 0x1A && t.regs.f == 0x20)
      = true := by decide +kernel

/-- V64, R218. -/
theorem test_V64_XOR_A :
    testRun { testRegs with a := 0xFF, f := 0xF0 } [0xAF] []
      (fun t => t.regs.a == 0x00 && t.regs.f == 0x80)
      = true := by decide +kernel

/-- V65, R221. -/
theorem test_V65_OR_A :
    testRun { testRegs with a := 0x00, f := 0x70 } [0xB7] []
      (fun t => t.regs.a == 0x00 && t.regs.f == 0x80)
      = true := by decide +kernel

/-- V66, R224. -/
theorem test_V66_CP_B :
    testRun { testRegs with a := 0x3C, b := 0x2F } [0xB8] []
      (fun t => t.regs.a == 0x3C && t.regs.f == 0x60)
      = true := by decide +kernel

/-- V68, R225. -/
theorem test_V68_CP_HL :
    testRun { testRegs with a := 0x3C, h := 0xD0, l := 0x00 } [0xBE] [(0xD000, 0x40)]
      (fun t => t.regs.a == 0x3C && t.regs.f == 0x50)
      = true := by decide +kernel

/-- V69, R227. -/
theorem test_V69_INC_A :
    testRun { testRegs with a := 0xFF, f := 0x10 } [0x3C] []
      (fun t => t.regs.a == 0x00 && t.regs.f == 0xB0)
      = true := by decide +kernel

/-- V72, R229. -/
theorem test_V72_DEC_C :
    testRun { testRegs with c := 0x00, f := 0x10 } [0x0D] []
      (fun t => t.regs.c == 0xFF && t.regs.f == 0x70)
      = true := by decide +kernel

/-- V73, R228. -/
theorem test_V73_INC_HL :
    testRun { testRegs with h := 0xD0, l := 0x00 } [0x34] [(0xD000, 0xFF)]
      (fun t => memRead t 0xD000 == 0x00 && t.regs.f == 0xA0)
      = true := by decide +kernel

/-- V74, R230. -/
theorem test_V74_DEC_HL :
    testRun { testRegs with h := 0xD0, l := 0x00 } [0x35] [(0xD000, 0x00)]
      (fun t => memRead t 0xD000 == 0xFF && t.regs.f == 0x60)
      = true := by decide +kernel

/-- V75, R231. -/
theorem test_V75_DAA :
    testRun { testRegs with a := 0x7D, f := 0x00 } [0x27] []
      (fun t => t.regs.a == 0x83 && t.regs.f == 0x00)
      = true := by decide +kernel

/-- V77, R231. -/
theorem test_V77_DAA :
    testRun { testRegs with a := 0x00, f := 0x60 } [0x27] []
      (fun t => t.regs.a == 0xFA && t.regs.f == 0x40)
      = true := by decide +kernel

/-- V80, R232. -/
theorem test_V80_CPL :
    testRun { testRegs with a := 0x35, f := 0x90 } [0x2F] []
      (fun t => t.regs.a == 0xCA && t.regs.f == 0xF0)
      = true := by decide +kernel

/-- V81, R233. -/
theorem test_V81_SCF :
    testRun { testRegs with f := 0xE0 } [0x37] []
      (fun t => t.regs.f == 0x90)
      = true := by decide +kernel

/-- V82, R234. -/
theorem test_V82_CCF :
    testRun { testRegs with f := 0xF0 } [0x3F] []
      (fun t => t.regs.f == 0x80)
      = true := by decide +kernel

/-- V90, R240. -/
theorem test_V90_ADD_HL_BC :
    testRun { testRegs with h := 0x8A, l := 0x23, b := 0x06, c := 0x05, f := 0x80 } [0x09] []
      (fun t => t.regs.h == 0x90 && t.regs.l == 0x28 && t.regs.f == 0xA0)
      = true := by decide +kernel

/-- V93, R241. -/
theorem test_V93_INC_DE :
    testRun { testRegs with d := 0xFF, e := 0xFF, f := 0x00 } [0x13] []
      (fun t => t.regs.d == 0x00 && t.regs.e == 0x00 && t.regs.f == 0x00)
      = true := by decide +kernel

/-- V94, R242. -/
theorem test_V94_DEC_BC :
    testRun { testRegs with b := 0x00, c := 0x00, f := 0xF0 } [0x0B] []
      (fun t => t.regs.b == 0xFF && t.regs.c == 0xFF && t.regs.f == 0xF0)
      = true := by decide +kernel

/-- V97, R243. -/
theorem test_V97_ADD_SP_2 :
    testRun { testRegs with sp := 0xD000 } [0xE8, 0xFE] []
      (fun t => t.regs.sp == 0xCFFE && t.regs.f == 0x00)
      = true := by decide +kernel

/-- V99, R243. -/
theorem test_V99_ADD_SP_1 :
    testRun { testRegs with sp := 0x0001 } [0xE8, 0xFF] []
      (fun t => t.regs.sp == 0x0000 && t.regs.f == 0x30)
      = true := by decide +kernel

/-- V110, R246. -/
theorem test_V110_RLCA :
    testRun { testRegs with a := 0x85, f := 0xF0 } [0x07] []
      (fun t => t.regs.a == 0x0B && t.regs.f == 0x10)
      = true := by decide +kernel

/-- V111, R247. -/
theorem test_V111_RRCA :
    testRun { testRegs with a := 0x3B } [0x0F] []
      (fun t => t.regs.a == 0x9D && t.regs.f == 0x10)
      = true := by decide +kernel

/-- V112, R248. -/
theorem test_V112_RLA :
    testRun { testRegs with a := 0x95, f := 0x10 } [0x17] []
      (fun t => t.regs.a == 0x2B && t.regs.f == 0x10)
      = true := by decide +kernel

/-- V113, R249. -/
theorem test_V113_RRA :
    testRun { testRegs with a := 0x81, f := 0x00 } [0x1F] []
      (fun t => t.regs.a == 0x40 && t.regs.f == 0x10)
      = true := by decide +kernel

/-- V115, R251. -/
theorem test_V115_RLC_B :
    testRun { testRegs with b := 0x85 } [0xCB, 0x00] []
      (fun t => t.regs.b == 0x0B && t.regs.f == 0x10 && t.regs.pc == 0xC002)
      = true := by decide +kernel

/-- V117, R254. -/
theorem test_V117_RRC_HL :
    testRun { testRegs with h := 0xD0, l := 0x00 } [0xCB, 0x0E] [(0xD000, 0x01)]
      (fun t => memRead t 0xD000 == 0x80 && t.regs.f == 0x10)
      = true := by decide +kernel

/-- V118, R255. -/
theorem test_V118_RL_L :
    testRun { testRegs with l := 0x80 } [0xCB, 0x15] []
      (fun t => t.regs.l == 0x00 && t.regs.f == 0x90)
      = true := by decide +kernel

/-- V119, R257. -/
theorem test_V119_RR_A :
    testRun { testRegs with a := 0x01 } [0xCB, 0x1F] []
      (fun t => t.regs.a == 0x00 && t.regs.f == 0x90)
      = true := by decide +kernel

/-- V120, R259. -/
theorem test_V120_SLA_D :
    testRun { testRegs with d := 0x80 } [0xCB, 0x22] []
      (fun t => t.regs.d == 0x00 && t.regs.f == 0x90)
      = true := by decide +kernel

/-- V121, R261. -/
theorem test_V121_SRA_A :
    testRun { testRegs with a := 0x8A } [0xCB, 0x2F] []
      (fun t => t.regs.a == 0xC5 && t.regs.f == 0x00)
      = true := by decide +kernel

/-- V124, R264. -/
theorem test_V124_SWAP_HL :
    testRun { testRegs with h := 0xD0, l := 0x00 } [0xCB, 0x36] [(0xD000, 0x00)]
      (fun t => memRead t 0xD000 == 0x00 && t.regs.f == 0x80)
      = true := by decide +kernel

/-- V125, R265. -/
theorem test_V125_SRL_A :
    testRun { testRegs with a := 0x01 } [0xCB, 0x3F] []
      (fun t => t.regs.a == 0x00 && t.regs.f == 0x90)
      = true := by decide +kernel

/-- V128, R267. -/
theorem test_V128_BIT_4_L :
    testRun { testRegs with l := 0xEF } [0xCB, 0x65] []
      (fun t => t.regs.l == 0xEF && t.regs.f == 0xA0)
      = true := by decide +kernel

/-- V129, R268. -/
theorem test_V129_BIT_0_HL :
    testRun { testRegs with h := 0xD0, l := 0x00 } [0xCB, 0x46] [(0xD000, 0xFE)]
      (fun t => t.regs.f == 0xA0)
      = true := by decide +kernel

/-- V130, R269. -/
theorem test_V130_RES_7_A :
    testRun { testRegs with a := 0x80, f := 0xF0 } [0xCB, 0xBF] []
      (fun t => t.regs.a == 0x00 && t.regs.f == 0xF0)
      = true := by decide +kernel

/-- V131, R270. -/
theorem test_V131_RES_3_HL :
    testRun { testRegs with h := 0xD0, l := 0x00 } [0xCB, 0x9E] [(0xD000, 0xFF)]
      (fun t => memRead t 0xD000 == 0xF7)
      = true := by decide +kernel

/-- V132, R271. -/
theorem test_V132_SET_3_A :
    testRun { testRegs with a := 0x80 } [0xCB, 0xDF] []
      (fun t => t.regs.a == 0x88)
      = true := by decide +kernel

/-- V133, R272. -/
theorem test_V133_SET_7_HL :
    testRun { testRegs with h := 0xD0, l := 0x00 } [0xCB, 0xFE] [(0xD000, 0x00)]
      (fun t => memRead t 0xD000 == 0x80)
      = true := by decide +kernel

/-- V140, R282. -/
theorem test_V140_JP_0x0150 :
    testRun testRegs [0xC3, 0x50, 0x01] []
      (fun t => t.regs.pc == 0x0150)
      = true := by decide +kernel

/-- V141, R283. -/
theorem test_V141_JP_Z_0x4000 :
    testRun { testRegs with f := 0x80 } [0xCA, 0x00, 0x40] []
      (fun t => t.regs.pc == 0x4000)
      = true := by decide +kernel

/-- V142, R283. -/
theorem test_V142_JP_Z_0x4000 :
    testRun { testRegs with f := 0x00 } [0xCA, 0x00, 0x40] []
      (fun t => t.regs.pc == 0xC003)
      = true := by decide +kernel

/-- V143, R284. -/
theorem test_V143_JP_HL :
    testRun { testRegs with h := 0xC1, l := 0x23 } [0xE9] []
      (fun t => t.regs.pc == 0xC123)
      = true := by decide +kernel

/-- V145, R285. -/
theorem test_V145_JR_2 :
    testRun testRegs [0x18, 0xFE] []
      (fun t => t.regs.pc == 0xC000)
      = true := by decide +kernel

/-- V146, R286. -/
theorem test_V146_JR_NZ_4 :
    testRun { testRegs with f := 0x00 } [0x20, 0xFC] []
      (fun t => t.regs.pc == 0xBFFE)
      = true := by decide +kernel

/-- V147, R286. -/
theorem test_V147_JR_NZ_4 :
    testRun { testRegs with f := 0x80 } [0x20, 0xFC] []
      (fun t => t.regs.pc == 0xC002)
      = true := by decide +kernel

/-- V149, R287. -/
theorem test_V149_CALL_0x1234 :
    testRun testRegs [0xCD, 0x34, 0x12] []
      (fun t => t.regs.pc == 0x1234 && t.regs.sp == 0xDFEE && memRead t 0xDFEF == 0xC0 && memRead t 0xDFEE == 0x03)
      = true := by decide +kernel

/-- V150, R288. -/
theorem test_V150_CALL_C_0x2000 :
    testRun { testRegs with f := 0x00 } [0xDC, 0x00, 0x20] []
      (fun t => t.regs.pc == 0xC003 && t.regs.sp == 0xDFF0)
      = true := by decide +kernel

/-- V151, R288. -/
theorem test_V151_CALL_NC_0x2000 :
    testRun { testRegs with f := 0x00 } [0xD4, 0x00, 0x20] []
      (fun t => t.regs.pc == 0x2000 && t.regs.sp == 0xDFEE && memRead t 0xDFEF == 0xC0 && memRead t 0xDFEE == 0x03)
      = true := by decide +kernel

/-- V152, R289. -/
theorem test_V152_RET :
    testRun testRegs [0xC9] [(0xDFF0, 0x03), (0xDFF1, 0x80)]
      (fun t => t.regs.pc == 0x8003 && t.regs.sp == 0xDFF2)
      = true := by decide +kernel

/-- V153, R290. -/
theorem test_V153_RET_Z :
    testRun { testRegs with f := 0x80 } [0xC8] [(0xDFF0, 0x03), (0xDFF1, 0x80)]
      (fun t => t.regs.pc == 0x8003 && t.regs.sp == 0xDFF2)
      = true := by decide +kernel

/-- V154, R290. -/
theorem test_V154_RET_NZ :
    testRun { testRegs with f := 0x80 } [0xC0] [(0xDFF0, 0x03), (0xDFF1, 0x80)]
      (fun t => t.regs.pc == 0xC001 && t.regs.sp == 0xDFF0)
      = true := by decide +kernel

/-- V155, R291. -/
theorem test_V155_RETI :
    testRun testRegs [0xD9] [(0xDFF0, 0x55), (0xDFF1, 0x01)]
      (fun t => t.regs.pc == 0x0155 && t.regs.sp == 0xDFF2 && t.cpu.ime)
      = true := by decide +kernel

/-- V156, R292. -/
theorem test_V156_RST_0x28 :
    testRun testRegs [0xEF] []
      (fun t => t.regs.pc == 0x0028 && t.regs.sp == 0xDFEE && memRead t 0xDFEF == 0xC0 && memRead t 0xDFEE == 0x01)
      = true := by decide +kernel

/-- V162, R299. -/
theorem test_V162_EI :
    testRun testRegs [0xFB] []
      (fun t => t.regs.pc == 0xC001 && !t.cpu.ime && t.cpu.imePending)
      = true := by decide +kernel

/-- `DI` clears both bits (R298). -/
theorem test_di :
    testNext (exec .di ((testState testRegs).withCpu { State.reset.cpu with ime := true, imePending := true }))
      (fun t => !t.cpu.ime && !t.cpu.imePending) = true := by decide +kernel

/-- V164: `HALT` with nothing pending. -/
theorem test_V164_HALT :
    testRun testRegs [0x76] []
      (fun t => t.cpu.cpuState == .halted && t.regs.pc == 0xC001 && !t.cpu.haltBug)
      = true := by decide +kernel

/-- V165: `STOP` skips its pad byte. -/
theorem test_V165_STOP :
    testRun testRegs [0x10, 0x00] []
      (fun t => t.cpu.cpuState == .stopped && t.regs.pc == 0xC002)
      = true := by decide +kernel

/-- R297, R451: `STOP` on `CGB` with the switch armed changes speed. -/
theorem test_STOP_speed :
    testNext (exec .stop { testState testRegs with
        cfg := { Config.default with rev := .cgb }
        cpu := { State.reset.cpu with speedArmed := true } })
      (fun t => t.cpu.doubleSpeed && !t.cpu.speedArmed && t.cpu.cpuState == .fetchingOpcode)
      = true := by decide +kernel

/-- V167: an undefined opcode. -/
theorem test_V167_undefined :
    testRun testRegs [0xD3] []
      (fun t => t.cpu.cpuFault && t.regs.pc == 0xC001 && t.cpu.ir == 0xD3)
      = true := by decide +kernel

/-- Trace I1 of part 4 in one step: `IE = IF = 0x04`, `IME = 1` at 0xC000 (R320). -/
def testIrq : State :=
  { testState testRegs with
    irq := { ie := 0x14, flags := 0x14 }
    cpu := { State.reset.cpu with ime := true } }

/-- The lower source is serviced, its flag alone is cleared, and `pc` is on the stack (R319, R320). -/
theorem test_interrupt :
    testNext (step testIrq) (fun t => t.regs.pc == 0x0050 && t.regs.sp == 0xDFEE
      && memRead t 0xDFEF == 0xC0 && memRead t 0xDFEE == 0x00 && t.irq.flags == 0x10 && !t.cpu.ime)
      = true := by decide +kernel

/-- The launch runs the word as the very next step, right after reset (R476, log 13). -/
theorem test_withFetchWord :
    testNext (step (State.reset.withFetchWord 16 0x7F3E)) (fun t => t.regs.a == 0x7F && t.regs.pc == 0x0102)
      = true := by decide +kernel

/-! ## The other blocks -/

/-- R334: the overflow tick, then the reload with the request. -/
def testOverflow : State :=
  { testState testRegs with
    timer := { divider := 4, tima := 0xFF, tma := 0x42, tac := 5, reload := .idle, bitPrev := false } }

theorem test_timer_overflow :
    (timerStep testOverflow).timer.tima = 0 ∧ (timerStep testOverflow).irq.flags = 0
      ∧ (timerStep (timerStep testOverflow)).timer.tima = 0x42
      ∧ (timerStep (timerStep testOverflow)).irq.flags = 4 := by decide +kernel

/-- R341: the copy from page 0xC1. -/
theorem test_sprite_dma :
    (memWrite (poke (testState testRegs) 0xC19F 0x77) 0xFF46 0xC1).store.oam = [(159, 0x77)] := by
  decide +kernel

/-- R397 and R398: disabling resets line and dot; enabling enters `search` on line 0. -/
def testPpu : State :=
  { State.reset with ppu := { State.reset.ppu with ly := 100, dot := 99, mode := .transfer, statMask := 4 } }

theorem test_lcdc :
    (memWrite testPpu 0xFF40 0x11).ppu.ly = 0 ∧ (memWrite testPpu 0xFF40 0x11).ppu.dot = 0
      ∧ (memWrite (memWrite testPpu 0xFF40 0x11) 0xFF40 0x91).irq.flags = 3 := by decide +kernel

/-- R85: a store to video RAM during `transfer` is discarded. -/
theorem test_blocked : memRead (memWrite testPpu 0x8000 0x55) 0x8000 = 0 := by decide +kernel

/-- R98: bank 0 becomes bank 1. -/
def testMbc : State := { State.reset with cfg := { Config.default with family := .rtc, romBanks := 8 } }

theorem test_bank0 : (memWrite testMbc 0x2000 0x00).cart.bankN testMbc.cfg = 1
    ∧ (memWrite testMbc 0x3FFF 0x85).cart.bankN testMbc.cfg = 5 := by decide +kernel

/-- R99, R70: with RAM enabled and select code 0x0A the external window is the hours byte; disabled it fills. -/
def testClock : State :=
  { testMbc with cart := { State.reset.cart with
      ramEnable := true, rtcSelect := 0x0A, rtcLatched := { Rtc.zero with hours := 0x17 } } }

theorem test_clock_window : memRead testClock 0xA123 = 0x17
    ∧ (memWrite testClock 0xBFFF 0x05).cart.rtcLive.hours = 0x05
    ∧ memRead testMbc 0xA123 = 0xFF := by decide +kernel

/-- R349: the last two bytes of the last block, across the end of video RAM: the transfer ends and HDMA5 reads 0xFF. -/
def testCopy : State :=
  { State.reset with
    cfg := { Config.default with rev := .cgb }
    dma := { State.reset.dma with
      hdmaSrc := 0xC000, hdmaDst := 0x9FFF, hdmaBlocks := 0, hdmaActive := true, hdmaBlockLeft := 2 }
    store := { State.reset.store with wram := [(0, 0x11), (1, 0x22)] } }

theorem test_bulk_copy : (dmaStep testCopy).store.vram = [(0, 0x22), (0x1FFF, 0x11)]
    ∧ (dmaStep testCopy).dma.cpuStall = true ∧ memRead (dmaStep testCopy) 0xFF55 = 0xFF := by decide +kernel

/-- R392, R393: the dots that enter `hblank` on line 0 and `vblank` at the end of line 143. -/
theorem test_ppu_entries :
    ((PpuRun.of { State.reset.ppu with dot := 251, mode := .transfer, statMask := 1 }).dot
        Config.default [] []).statReq = true
      ∧ ((PpuRun.of { State.reset.ppu with dot := 455, ly := 143, mode := .hblank }).dot
        Config.default [] []).vblankReq = true := by decide +kernel

/-- R434: a trigger of channel 3 with an expired length loads 256 and restarts the phase. -/
theorem test_trigger_wave :
    (memWrite { State.reset with apu := { State.reset.apu with
        ch3 := { State.reset.apu.ch3 with dac := true, phase := 9 } } } 0xFF1E 0x80).apu.ch3.length.value = 256
      ∧ (memWrite { State.reset with apu := { State.reset.apu with
        ch3 := { State.reset.apu.ch3 with dac := true, phase := 9 } } } 0xFF1E 0x80).apu.ch3.phase = 0 := by
  decide +kernel

/-- R422, R431: the load of 0 is 64, and 63 length clocks leave 1. -/
theorem test_length : (Length.load (0 : BitVec 6)).value = 64
    ∧ (times (Length.clock true) 63 (Length.load (0 : BitVec 6))).value = 1
    ∧ (times (Length.clock true) 63 (Length.load (0 : BitVec 6))).expires true = true := by
  decide +kernel

/-- R437: NR50 = 0x77 and NR51 = 0xF3 route a volume of 15 of channel 1 to both sides, times 8; with NR51 = 0xE3 to
the right side alone, of which the mono output has half. -/
theorem test_mix :
    let ch1 : Pulse := { Pulse.zero with enabled := true, duty := 3, phase := 1, env := { Envelope.zero with vol := 15 } }
    let p : Apu := { State.reset.apu with ch1 := ch1 }
    p.mix = (120, 120) ∧ p.mono = 120 ∧ { p with nr51 := 0xE3 }.mix = (0, 120) ∧ { p with nr51 := 0xE3 }.mono = 60 := by
  decide +kernel

/-- R439: by default master disable keeps NR51, and NR50 not. -/
theorem test_master_disable : memRead (memWrite State.reset 0xFF26 0x00) 0xFF25 = 0xF3
    ∧ memRead (memWrite State.reset 0xFF26 0x00) 0xFF24 = 0x00 := by decide +kernel

/-- R449: with the direction group selected, Down goes to line 3. -/
theorem test_joypad :
    memRead { State.reset with
        inputs := { buttons := 0x08, irq3Line := false, script := [] }
        pad := { State.reset.pad with selAction := true } } 0xFF00 = 0xE7 := by decide +kernel

/-- R434: a trigger with the DAC off stays off. -/
theorem test_trigger_no_dac : (memWrite State.reset 0xFF19 0x80).apu.ch2.enabled = false
    ∧ (memWrite State.reset 0xFF19 0x80).apu.ch2.length.value = 64 := by decide +kernel

/-! ## Witnesses: a state and operands that meet the hypotheses of each statement -/

/-- Whether one step answers a next state. -/
def answersNext (r : Answer) : Bool := testNext r (fun _ => true)

/-- A state in another processor state, with pending interrupts and buttons. -/
def testIdle (c : CpuState) (flags : BitVec 5) (ime : Bool) (buttons : BitVec 8) : State :=
  { testState testRegs with
    cpu := { State.reset.cpu with cpuState := c, ime := ime }
    irq := { ie := 0x1F, flags := flags }
    inputs := { State.reset.inputs with buttons := buttons } }

/-- A halted processor with an interrupt pending, `IME = 0` and the other `HALT_BUG_SCOPE`. -/
def testHaltScope : State :=
  { testIdle .halted 4 false 0 with cfg := { Config.default with haltBugScope := .onlyIfPendingAtHalt } }

/-- A state of `CGB` with a family. -/
def testCgb (fam : MbcFamily) : State :=
  { State.reset with cfg := { Config.default with rev := .cgb, family := fam } }

theorem witness_DecodeOfEncode :
    (Instr.undefined 0xFD).wellFormed = true ∧ Instr.undefined 0xFD ≠ .prefix_CB := by decide

theorem witness_EncodeOfDecode : decode [0x10, 0xFF, 0x01] = .instr .stop [0x01]
    ∧ decode [0xCB] = .instr .prefix_CB [] := by decide

theorem witness_UndefinedBytes : decodeFirst 0xD3 0x01 0x02 = .undefined 0xD3 := by decide

theorem witness_TablesAgreeWithFields : formFirst 0x36 ≠ .prefixCb ∧ formFirst 0x36 ≠ .undefined := by
  decide

theorem witness_StepRunsDecodedInstruction :
    State.reset.cpu.cpuFault = false ∧ State.reset.cpu.cpuState = .fetchingOpcode
      ∧ accepts (beginTick State.reset) = false := by decide +kernel

/-- A three-byte instruction whose last byte is the last of work RAM. -/
def testFetch : State := pokeAll [0xCD, 0x34, 0x12] 0xDFFD (testState { testRegs with pc := 0xDFFD })

theorem witness_FetchReadsProgram :
    testFetch.cpu.haltBug = false
      ∧ (∀ k : Fin 3, steady testFetch (testFetch.regs.pc + BitVec.ofNat 16 k.val) = true)
      ∧ decode [memRead testFetch testFetch.regs.pc, memRead testFetch (testFetch.regs.pc + 1),
          memRead testFetch (testFetch.regs.pc + 2)] = .instr (.call_nn 0x1234) [] := by
  decide +kernel

theorem witness_StepIsItsTicks :
    State.reset.cfg.rev = .dmg ∧ State.reset.cpu.cpuFault = false
      ∧ State.reset.cpu.cpuState = .fetchingOpcode ∧ answersNext (step State.reset) = true := by
  decide +kernel

theorem witness_InterruptEntry :
    (0b10100 : BitVec 5) ≠ 0 ∧ testIrq.cpu.cpuFault = false ∧ testIrq.cpu.cpuState = .fetchingOpcode
      ∧ accepts (beginTick testIrq) = true ∧ testIrq.memWf = true ∧ 4 ≤ testIrq.cfg.irqEntryCycles := by
  decide +kernel

/-- The stack below 0xFFFE is high RAM, below 0xDFF0 work RAM. -/
theorem witness_stackInRam : stackInRam State.reset ∧ State.reset.memWf = true ∧ stackInRam testIrq := by
  unfold stackInRam
  decide +kernel

theorem witness_EnableLatency :
    (State.reset.withCpu { State.reset.cpu with imePending := true }).cpu.ime = false
      ∧ (State.reset.withCpu { State.reset.cpu with imePending := true }).cpu.imePending = true := by
  decide

theorem witness_HaltedProcessor :
    (testIdle .halted 0 false 0).cpu.cpuState = .halted
      ∧ (beginTick (testIdle .halted 0 false 0)).irq.ie &&& (beginTick (testIdle .halted 0 false 0)).irq.flags = 0
      ∧ (beginTick (testIdle .halted 4 true 0)).irq.ie &&& (beginTick (testIdle .halted 4 true 0)).irq.flags ≠ 0
      ∧ (testIdle .halted 4 true 0).cpu.ime = true
      ∧ (beginTick (testIdle .halted 4 false 0)).irq.ie &&& (beginTick (testIdle .halted 4 false 0)).irq.flags ≠ 0
      ∧ (testIdle .halted 4 false 0).cfg.haltBugScope = .anyWakeWithIme0
      ∧ (beginTick testHaltScope).irq.ie &&& (beginTick testHaltScope).irq.flags ≠ 0
      ∧ testHaltScope.cfg.haltBugScope = .onlyIfPendingAtHalt
      ∧ testHaltScope.cpu.cpuState = .halted ∧ testHaltScope.cpu.ime = false
      ∧ testHaltScope.cpu.haltBug = false := by decide +kernel

theorem witness_StoppedProcessor :
    (testIdle .stopped 4 true 0).cpu.cpuState = .stopped
      ∧ (beginTick (testIdle .stopped 4 true 0)).inputs.buttons = 0
      ∧ (beginTick (testIdle .stopped 4 true 0x80)).inputs.buttons ≠ 0
      ∧ accepts (beginTick (testIdle .stopped 4 true 0x80)) = true
      ∧ accepts (beginTick (testIdle .stopped 4 false 0x80)) = false := by decide +kernel

theorem witness_UndefinedOpcodeStops :
    (State.reset.withCpu { State.reset.cpu with cpuFault := true }).cpu.cpuFault = true := by decide

theorem witness_OnlyUndefinedStops :
    exec .nop State.reset = .next State.reset
      ∧ step (State.reset.withCpu { State.reset.cpu with cpuFault := true, ir := 0xD3 })
        = .fault (.unsupportedOpcode 0xD3) := ⟨rfl, rfl⟩

/-- One instruction of each form that the statements name, the load and store forms. -/
theorem witness_load_forms :
    Instr.form .ld_B_C = .ldRR .b .c ∧ Instr.form (.ld_A_n 1) = .ldRN .a
      ∧ Instr.form (.ld_SP_nn 1) = .ldRrNn .sp ∧ Instr.form .ld_SP_HL = .ldSpHl
      ∧ Instr.form .push_AF = .push .af ∧ Instr.form (.ld_mnn_SP 1) = .ldNnSp
      ∧ Instr.form .pop_AF = .pop .af := by decide

theorem witness_LoadsFromMemory : loadAddress .ld_L_mHL State.reset = some 0x014D
    ∧ loadAddress (.ldh_A_mn 0xFF) State.reset = some 0xFFFF := by decide

theorem witness_StoresToMemory : storeAddress .ld_mHL_L State.reset = some 0x014D
    ∧ storedByte .ld_mHL_L State.reset = some 0x4D
    ∧ storeAddress (.ldh_mn_A 0) State.reset = some 0xFF00
    ∧ storedByte (.ldh_mn_A 0) State.reset = some 0x01 := by decide

theorem witness_AccumulatorOperations :
    aluOperand .sbc_A_A State.reset = some (.sbc, 0x01, State.reset)
      ∧ aluOperand (.cp_n 0xFF) State.reset = some (.cp, 0xFF, State.reset)
      ∧ ∃ v u, aluOperand .and_mHL State.reset = some (.and, v, u) := ⟨rfl, rfl, _, _, rfl⟩

/-- The arithmetic, rotate and bit forms. -/
theorem witness_arithmetic_forms :
    Instr.form .inc_L = .incR .l ∧ Instr.form .dec_A = .decR .a ∧ Instr.form .inc_mHL = .incHl
      ∧ Instr.form .dec_mHL = .decHl ∧ Instr.form .add_HL_SP = .addHlRr .sp
      ∧ Instr.form .inc_SP = .incRr .sp ∧ Instr.form .dec_BC = .decRr .bc
      ∧ Instr.form (.add_SP_e 0x80) = .addSpE ∧ Instr.form (.ld_HL_SPe 0x7F) = .ldHlSpE
      ∧ Instr.form .rlca = .rlca ∧ Instr.form .rrca = .rrca ∧ Instr.form .rla = .rla
      ∧ Instr.form .rra = .rra ∧ Instr.form .swap_E = .rotR .swap .e
      ∧ Instr.form .srl_mHL = .rotHl .srl ∧ Instr.form .bit_7_A = .bitR 7 .a
      ∧ Instr.form .bit_0_mHL = .bitHl 0 ∧ Instr.form .res_7_B = .resR 7 .b
      ∧ Instr.form .res_0_mHL = .resHl 0 ∧ Instr.form .set_0_L = .setR 0 .l
      ∧ Instr.form .set_7_mHL = .setHl 7 := by decide

/-- The control forms; the flags of reset are `Z` and `C` (and `H`). -/
theorem witness_control_forms :
    Instr.form (.jp_nn 1) = .jpNn ∧ Instr.form (.jp_C_nn 1) = .jpCcNn .c ∧ Instr.form .jp_HL = .jpHl
      ∧ Instr.form (.jr_e 0x80) = .jrE ∧ Instr.form (.jr_NZ_e 1) = .jrCcE .nz
      ∧ callTarget (.call_nn 0xFFFF) State.reset = some 0xFFFF
      ∧ callTarget (.call_Z_nn 0) State.reset = some 0
      ∧ callTarget .rst_38 State.reset = some 0x38
      ∧ Instr.form (.call_NZ_nn 0) = .callCcNn .nz ∧ State.reset.regs.holds .nz = false
      ∧ Instr.form .ret = .ret ∧ Instr.form .ret_Z = .retCc .z ∧ State.reset.regs.holds .z = true
      ∧ Instr.form .ret_NC = .retCc .nc ∧ State.reset.regs.holds .nc = false
      ∧ Instr.form .reti = .reti := by decide

/-- The frames: a load, an arithmetic and a control instruction that answer a next state. -/
theorem witness_frames :
    (Instr.form .pop_AF).family = .load16 ∧ (Instr.form .ld_B_C).family = .load8
      ∧ (Instr.form .add_A_B).family = .alu8 ∧ (Instr.form .inc_HL).family = .alu16
      ∧ (Instr.form .bit_0_mHL).family = .rotateBit ∧ (Instr.form (.jp_nn 1)).family = .control
      ∧ (Instr.form .ei).family = .system ∧ State.reset.flagsWf = true
      ∧ answersNext (exec .pop_AF State.reset) = true ∧ answersNext (exec .add_A_B State.reset) = true
      ∧ answersNext (exec (.jp_nn 1) State.reset) = true ∧ answersNext (exec .ei State.reset) = true := by
  decide +kernel

theorem witness_FrameWithoutStore :
    (Instr.form .ld_A_mBC).stores State.reset.regs = false ∧ steady State.reset 0xC000 = true
      ∧ answersNext (exec .ld_A_mBC State.reset) = true
      ∧ (Instr.form .scf).stores State.reset.regs = false
      ∧ (formSeq (Instr.form .scf)).length ≤ 1 := by decide +kernel

theorem witness_FrameOfStores :
    storeAddress .ld_mHL_B (testState { testRegs with h := 0xC0 }) = some 0xC000
      ∧ (handler State.reset 0xC000).isPlain = true
      ∧ handler State.reset 0xC001 ≠ handler State.reset 0xC000 ∧ steady State.reset 0xC001 = true
      ∧ answersNext (exec .ld_mHL_B (testState { testRegs with h := 0xC0 })) = true
      ∧ storePair .push_BC State.reset = some (0xFFFD, 0xFFFC)
      ∧ (handler State.reset 0xFFFD).isPlain = true ∧ (handler State.reset 0xFFFC).isPlain = true
      ∧ handler State.reset 0xFFFB ≠ handler State.reset 0xFFFC ∧ steady State.reset 0xFFFB = true
      ∧ answersNext (exec .push_BC State.reset) = true := by decide +kernel

theorem witness_ReadAfterWrite :
    State.reset.memWf = true ∧ (handler State.reset 0xDFFF).isRam = true
      ∧ handler State.reset 0xC000 ≠ handler State.reset 0xDFFF := by decide +kernel

/-- The ranges of the memory statements at their ends. -/
theorem witness_ranges :
    (0xE000 ≤ (0xE000 : Word).toNat ∧ (0xFDFF : Word).toNat < 0xFE00)
      ∧ (0xFEA0 ≤ (0xFEA0 : Word).toNat ∧ (0xFEFF : Word).toNat < 0xFF00)
      ∧ (0x8000 ≤ (0x8000 : Word).toNat ∧ (0x9FFF : Word).toNat < 0xA000)
      ∧ (0xFE00 ≤ (0xFE00 : Word).toNat ∧ (0xFE9F : Word).toNat < 0xFEA0)
      ∧ (0xFF51 ≤ (0xFF51 : Word).toNat ∧ (0xFF55 : Word).toNat ≤ 0xFF55) := by decide

theorem witness_BankSelect :
    State.reset.router.bootMapped = false
      ∧ (testCgb .none).cfg.family = .none ∧ (testCgb .simple).cfg.family = .simple
      ∧ (testCgb .rtc).cfg.family = .rtc ∧ (testCgb .wide9).cfg.family = .wide9
      ∧ (testCgb .multicart).cfg.family = .multicart ∧ (0x1FFF : Word).toNat < 0x2000
      ∧ 0x2000 ≤ (0x2000 : Word).toNat ∧ (0x2FFF : Word).toNat < 0x3000 ∧ 0x3000 ≤ (0x3000 : Word).toNat
      ∧ (0x3FFF : Word).toNat < 0x4000 ∧ (0x5FFF : Word).toNat < 0x6000 ∧ 0x6000 ≤ (0x6000 : Word).toNat
      ∧ 0xA000 ≤ (0xA000 : Word).toNat ∧ (0xBFFF : Word).toNat < 0xC000
      ∧ testClock.cfg.family = .rtc ∧ testClock.cart.ramEnable = true ∧ testMbc.cart.ramEnable = false
      ∧ 0x4000 ≤ (0x4000 : Word).toNat ∧ (0x7FFF : Word).toNat < 0x8000 := by decide

/-- `CGB` with the overlay mapped. -/
def testBoot : State := { testCgb .none with router := { State.reset.router with bootMapped := true } }

theorem witness_BootOverlay :
    testBoot.router.bootMapped = true ∧ (0xFF : Word).toNat < 0x100 ∧ testBoot.cfg.rev = .cgb
      ∧ (0x200 ≤ (0x200 : Word).toNat ∧ (0x8FF : Word).toNat < 0x900)
      ∧ ¬((0x100 : Word).toNat < 0x100 ∨ (testBoot.cfg.rev = .cgb ∧ 0x200 ≤ (0x100 : Word).toNat
        ∧ (0x100 : Word).toNat < 0x900)) := by decide

theorem witness_step_from_reset :
    answersNext (step State.reset) = true ∧ State.reset.router.bootMapped = false
      ∧ answersNext (step testBoot) = true := by decide +kernel

theorem witness_SpriteDma : State.reset.memWf = true := by decide

theorem witness_BulkCopy :
    State.reset.cfg.rev = .dmg ∧ (testCgb .none).cfg.rev = .cgb ∧ bit (0x80 : Byte) 7 = true
      ∧ bit (0x7F : Byte) 7 = false ∧ (testCgb .none).dma.hdmaActive = false
      ∧ (memWrite (testCgb .none) 0xFF55 0x80).dma.hdmaActive = true
      ∧ (memWrite (testCgb .none) 0xFF55 0x80).dma.hdmaMode = .hblank
      ∧ State.reset.dma.hdmaBlockLeft = 0 ∧ testCopy.cfg.hdmaBytesPerCycle = 2
      ∧ 2 ≤ testCopy.dma.hdmaBlockLeft.toNat ∧ (dmaStep testCopy).dma.cpuStall = true := by decide +kernel

theorem witness_ModeEntries :
    timingWf State.reset.cfg = true ∧ State.reset.ppu.ly.toNat < State.reset.cfg.ppuTotalLines
      ∧ bit State.reset.ppu.lcdc 7 = true := by decide

/-- Start is pressed between two ticks with both groups selected. -/
def testPress : State :=
  { State.reset with inputs := { State.reset.inputs with script := [(0, .setButtons 0x80)] } }

theorem witness_JoypadEdge : testPress.inputs.script = [(0, .setButtons 0x80)]
    ∧ (hostPhase testPress).irq.flags = 0x11 := by decide +kernel

theorem witness_PipelineEnable :
    bit State.reset.ppu.lcdc 7 = true ∧ bit (0x11 : Byte) 7 = false
      ∧ timingWf (testState testRegs).cfg = true
      ∧ bit (testState testRegs).ppu.lcdc 7 = false ∧ (testState testRegs).ppu.ly = 0 := by decide

theorem witness_SoundTrigger : State.reset.apu.on = true ∧ bit (0x87 : Byte) 7 = true := by decide

/-- Both boot modes and both revisions, for the clauses of the power-on statement. -/
theorem witness_PowerOnValues :
    Config.default.boot = .skip ∧ Config.default.rev = .dmg
      ∧ ({ Config.default with rev := .cgb } : Config).rev = .cgb
      ∧ ({ Config.default with boot := .rom } : Config).boot = .rom := by decide

/-- The clocking edge with `TIMA` at 0xFF, at 0xFE, and a tick without an edge. -/
theorem witness_TimerTick :
    testOverflow.cfg.timerEdge = .rising ∧ testOverflow.timer.bitPrev = false
      ∧ (bit (testOverflow.timer.divider + BitVec.ofNat 16 testOverflow.cfg.tcycPerStep) 3 && bit testOverflow.timer.tac 2) = true
      ∧ testOverflow.timer.tima = 0xFF ∧ (timerStep testOverflow).timer.bitPrev = true := by decide

/-- A state other than reset that meets every invariant and steps. -/
theorem witness_StepKeepsInvariants :
    (testState testRegs).memWf = true ∧ (testState testRegs).flagsWf = true
      ∧ timingWf (testState testRegs).cfg = true
      ∧ (testState testRegs).ppu.inRange (testState testRegs).cfg = true
      ∧ (testState testRegs).ppu.mode
        = modeAt (testState testRegs).cfg (testState testRegs).ppu.ly.toNat (testState testRegs).ppu.dot
      ∧ (testState testRegs).ppu.ly = 0 ∧ (testState testRegs).ppu.dot = 0
      ∧ (testState testRegs).apu.lengthsWf = true ∧ (testState testRegs).apu.dacsWf = true
      ∧ (testState testRegs).dmgAtRest = true
      ∧ Cart.banksWf (testState testRegs).cfg (testState testRegs).cart = true
      ∧ answersNext (step (testState testRegs)) = true := by decide +kernel

end Sys2Proof.Tests
end

/-! # Memory: the map above 0x8000, and the boot overlay -/

namespace Sys2Proof.Machine

/-! ## Which handler an address has (20_memory.md R66) -/

section map
variable {s : State} {a : Word} {v : Byte}

theorem handler_of_lt (h : a.toNat < 0x8000) : handler s a = romHandler s a.toNat := if_pos h

theorem handler_of_ge (h : 0x8000 ≤ a.toNat) : handler s a = highHandler s a.toNat :=
  if_neg (Nat.not_lt.mpr h)

theorem handler_workRam (hlo : 0xC000 ≤ a.toNat) (hhi : a.toNat < 0xE000) :
    handler s a = wramHandler s (a.toNat - 0xC000) := by
  rw [handler_of_ge (by omega), highHandler, if_neg (by omega), if_neg (by omega), if_pos hhi]

theorem handler_echo (hlo : 0xE000 ≤ a.toNat) (hhi : a.toNat < 0xFE00) :
    handler s a = wramHandler s (a.toNat - 0xE000) := by
  rw [handler_of_ge (by omega), highHandler, if_neg (by omega), if_neg (by omega), if_neg (by omega),
    if_pos hhi]

theorem handler_unusable (hlo : 0xFEA0 ≤ a.toNat) (hhi : a.toNat < 0xFF00) :
    handler s a = .unmapped := by
  rw [handler_of_ge (by omega), highHandler, if_neg (by omega), if_neg (by omega), if_neg (by omega),
    if_neg (by omega), if_neg (by omega), if_pos hhi]

/-- Every offset of the work RAM window resolves to a cell of work RAM. -/
theorem wramHandler_eq_wram (s : State) (j : Nat) : ∃ i, wramHandler s j = .wram i := by
  unfold wramHandler
  split
  · exact ⟨_, rfl⟩
  · exact ⟨_, rfl⟩

/-- Below 0x8000 an address resolves to an image, the boot image or the cartridge's. -/
theorem romHandler_cases (s : State) (n : Nat) :
    (∃ i, romHandler s n = .bootRom i) ∨ ∃ i, romHandler s n = .rom i := by
  unfold romHandler
  split
  · exact .inl ⟨_, rfl⟩
  · split
    · exact .inr ⟨_, rfl⟩
    · exact .inr ⟨_, rfl⟩

/-- An address in the I/O window is its own offset from 0xFF00, whatever the selection state. -/
theorem toNat_of_handler_io {off : Nat} (h : handler s a = .io off) : a.toNat = 0xFF00 + off := by
  by_cases hrom : a.toNat < 0x8000
  · rw [handler_of_lt hrom] at h
    obtain ⟨i, hi⟩ | ⟨i, hi⟩ := romHandler_cases s a.toNat
    · cases hi.symm.trans h
    · cases hi.symm.trans h
  rw [handler_of_ge (by omega), highHandler] at h
  by_cases hvram : a.toNat < 0xA000
  · rw [if_pos hvram] at h; cases h
  rw [if_neg hvram] at h
  by_cases hext : a.toNat < 0xC000
  · rw [if_pos hext, extHandler] at h; split at h <;> cases h
  rw [if_neg hext] at h
  obtain ⟨i, hi⟩ := wramHandler_eq_wram s (a.toNat - 0xC000)
  obtain ⟨j, hj⟩ := wramHandler_eq_wram s (a.toNat - 0xE000)
  rw [hi, hj] at h
  split_ifs at h
  have hoff := Handler.io.inj h
  omega

theorem handler_io (hlo : 0xFF00 ≤ a.toNat) (hhi : a.toNat < 0xFF80) :
    handler s a = .io (a.toNat - 0xFF00) := by
  rw [handler_of_ge (by omega), highHandler, if_neg (by omega), if_neg (by omega), if_neg (by omega),
    if_neg (by omega), if_neg (by omega), if_neg (by omega), if_pos hhi]

theorem memWrite_unmapped (h : handler s a = .unmapped) : memWrite s a v = s := by
  rw [memWrite, h]; rfl

/-- Every write below 0x8000 goes to the Bank Controller, under the boot overlay too (R94). -/
theorem memWrite_controller (h : a.toNat < 0x8000) : memWrite s a v = writeController s a.toNat v := by
  rw [memWrite, handler_of_lt h]
  obtain ⟨i, hi⟩ | ⟨i, hi⟩ := romHandler_cases s a.toNat
  · rw [hi]; rfl
  · rw [hi]; rfl

end map

/-! ## Echo RAM and the unusable area (R72, R74) -/

section echo
variable {s : State} {a : Word} {v : Byte}

/-- An echo address and the one 0x2000 lower have the same handler. -/
theorem handler_echo_eq (hlo : 0xE000 ≤ a.toNat) (hhi : a.toNat < 0xFE00) :
    handler s a = handler s (a - 0x2000) := by
  have hsub : (a - 0x2000).toNat = a.toNat - 0x2000 := by bv_omega
  have hcell : (a - 0x2000).toNat - 0xC000 = a.toNat - 0xE000 := by omega
  rw [handler_echo hlo hhi, handler_workRam (by omega) (by omega), hcell]

theorem memRead_echo (hlo : 0xE000 ≤ a.toNat) (hhi : a.toNat < 0xFE00) :
    memRead s a = memRead s (a - 0x2000) := by
  rw [memRead, memRead, handler_echo_eq hlo hhi]

/-- A store to work RAM does not use the address it came from, so the echo stores the same. -/
theorem memWrite_echo (hlo : 0xE000 ≤ a.toNat) (hhi : a.toNat < 0xFE00) :
    memWrite s a v = memWrite s (a - 0x2000) v := by
  obtain ⟨i, hi⟩ := wramHandler_eq_wram s (a.toNat - 0xE000)
  have ha : handler s a = .wram i := (handler_echo hlo hhi).trans hi
  rw [memWrite_wram ha, memWrite_wram ((handler_echo_eq hlo hhi).symm.trans ha)]

theorem memRead_unusable (hlo : 0xFEA0 ≤ a.toNat) (hhi : a.toNat < 0xFF00) : memRead s a = 0xFF := by
  rw [memRead, handler_unusable hlo hhi]; rfl

end echo

/-- Settles O39: an echo address has the handler of the address 0x2000 lower, and the unusable area has the handler that
fills and discards. -/
theorem echoAndNothing : Obligations.EchoAndNothing := fun _ _ _ =>
  ⟨fun hlo hhi => ⟨memRead_echo hlo hhi, memWrite_echo hlo hhi⟩,
    fun hlo hhi => ⟨memRead_unusable hlo hhi, memWrite_unmapped (handler_unusable hlo hhi)⟩⟩

/-! ## The boot overlay (R67, R78, R79) -/

/-- The machine with the boot overlay unmapped. -/
def State.withoutOverlay (s : State) : State :=
  { s with router := { s.router with bootMapped := false } }

/-- The addresses that the overlay covers while it is mapped (R78). -/
def inOverlay (s : State) (n : Nat) : Prop :=
  n < 0x100 ∨ (s.cfg.rev = .cgb ∧ 0x200 ≤ n ∧ n < 0x900)

section overlay
variable {s : State} {a : Word} {v : Byte} {n : Nat}

theorem overlayAt_iff : overlayAt s n = true ↔ s.router.bootMapped = true ∧ inOverlay s n := by
  simp [overlayAt, inOverlay, and_assoc]

theorem overlayAt_withoutOverlay : overlayAt s.withoutOverlay n = false := rfl

theorem inOverlay_lt (h : inOverlay s n) : n < 0x8000 := by
  obtain hlow | ⟨-, -, hhigh⟩ := h
  · omega
  · omega

/-- An address that the overlay does not cover resolves as without it. -/
theorem handler_withoutOverlay (h : ¬inOverlay s a.toNat) :
    handler s.withoutOverlay a = handler s a := by
  have hover : overlayAt s a.toNat = false :=
    Bool.eq_false_iff.mpr fun ht => h (overlayAt_iff.mp ht).2
  have hrom : romHandler s.withoutOverlay a.toNat = romHandler s a.toNat := by
    rw [romHandler, romHandler, overlayAt_withoutOverlay, hover]; rfl
  rw [handler, handler, hrom]; rfl

/-- BOOT is the one register of the I/O window that shows whether the overlay is mapped. -/
theorem readIo_withoutOverlay {off : Nat} (h : off ≠ 0x50) :
    readIo s.withoutOverlay off = readIo s off := by
  unfold readIo
  rw [if_neg h, if_neg h]
  rfl

theorem readHandler_withoutOverlay {q : Handler} (h : q ≠ .io 0x50) :
    readHandler s.withoutOverlay q = readHandler s q := by
  cases q with
  | io off => exact readIo_withoutOverlay fun e => h (congrArg Handler.io e)
  | _ => rfl

/-- Away from the overlay and from BOOT, a read is as without the overlay. -/
theorem memRead_withoutOverlay (hover : ¬inOverlay s a.toNat) (hboot : a ≠ 0xFF50) :
    memRead s.withoutOverlay a = memRead s a := by
  have hio : handler s a ≠ .io 0x50 := fun h => hboot (BitVec.eq_of_toNat_eq (toNat_of_handler_io h))
  rw [memRead, handler_withoutOverlay hover, readHandler_withoutOverlay hio, memRead]

/-- While mapped, the overlay reads the boot image (R78). -/
theorem memRead_overlay (hm : s.router.bootMapped = true) (h : inOverlay s a.toNat) :
    memRead s a = s.store.bootRom.read (overlayIndex a.toNat) := by
  rw [memRead, handler_of_lt (inOverlay_lt h), romHandler, if_pos (overlayAt_iff.mpr ⟨hm, h⟩)]
  rfl

/-- The fixed ROM bank, with the overlay unmapped (R67). -/
theorem memRead_bank0 (h : a.toNat < 0x4000) :
    memRead s.withoutOverlay a
      = s.store.rom.read (s.cart.bank0 s.cfg % s.cfg.romBanks * 0x4000 + a.toNat) := by
  rw [memRead, handler_of_lt (by omega), romHandler, overlayAt_withoutOverlay, if_neg (by decide), if_pos h]
  rfl

theorem handler_boot : handler s 0xFF50 = .io 0x50 := handler_io (by decide) (by decide)

theorem memRead_boot : memRead s 0xFF50 = if s.router.bootMapped = true then 0xFE else 0xFF := by
  have hread : memRead s 0xFF50 = readBoot s.router := by rw [memRead, handler_boot]; rfl
  rw [hread, readBoot]
  cases s.router.bootMapped
  · rfl
  · rfl

/-- A write of BOOT unmaps the overlay exactly when bit 0 is set, and never maps it (R79). -/
theorem memWrite_boot : memWrite s 0xFF50 v
    = { s with router := { s.router with
        bootMapped := if v.toNat % 2 = 1 then false else s.router.bootMapped } } := by
  have hbit : (s.router.bootMapped && !bit v 0)
      = if v.toNat % 2 = 1 then false else s.router.bootMapped := by
    have h0 : bit v 0 = decide (v.toNat % 2 = 1) := by simp [bit, BitVec.getLsbD, Nat.testBit_zero]
    rw [h0]
    by_cases hodd : v.toNat % 2 = 1
    · simp [hodd]
    · simp [hodd]
  rw [memWrite, handler_boot, ← hbit]
  rfl

end overlay

/-- Settles O42: BOOT is the one register that shows or clears `boot_mapped`, the overlay decides which image an address
below 0x8000 reads, and a write there goes to the Bank Controller whichever image it is. -/
theorem bootOverlay : Obligations.BootOverlay := by
  intro s v a mapped u covered
  refine ⟨memWrite_boot, memRead_boot, memRead_overlay, ?_, ?_, memRead_bank0⟩
  · exact fun hover hboot => (memRead_withoutOverlay hover hboot).symm
  · intro h
    rw [memWrite_controller h, memWrite_controller h]
    exact ⟨rfl, rfl⟩

end Sys2Proof.Machine

/-! # The step: stopped processor -/

namespace Sys2Proof.Machine

/-! ## The branches of a step (40_execution_engine.md R145, R159) -/

section branches
variable {s : State}

/-- Without a fault a step is what the processor does in the cycle in which it steps. -/
theorem step_of_not_fault (h : s.cpu.cpuFault = false) : step s = runCpu (beginTick s) := by
  rw [step, h]; rfl

theorem runBoundary_of_accepts (h : accepts s = true) :
    runBoundary s = .next (endTick (takeInterrupt s)) := if_pos h

theorem runBoundary_of_not_accepts (h : accepts s = false) :
    runBoundary s = finishTick (exec (fetchInstr s).2 (fetchInstr s).1) :=
  if_neg (Bool.eq_false_iff.mp h)

theorem runCpu_of_idles (h : idles s = true) : runCpu s = .next (endTick s) := if_pos h

end branches

/-! ## `stopped` (R155) -/

section stopped
variable {s : State}

/-- Whether a stopped processor idles depends on the buttons alone. -/
theorem idles_stopped (h : s.cpu.cpuState = .stopped) : idles s = true ↔ s.inputs.buttons = 0 := by
  simp [idles, h, anyButton]

/-- With a button pressed, the boundary runs in `fetching-opcode`, in the same cycle. -/
theorem runCpu_stopped (h : s.cpu.cpuState = .stopped) (hb : s.inputs.buttons ≠ 0) :
    runCpu s = runBoundary (s.withCpuState .fetchingOpcode) := by
  have hawake : ¬idles s = true := mt (idles_stopped h).mp hb
  rw [runCpu, if_neg hawake, wake, h]

end stopped

/-- Settles O13: the head of the tick leaves `cpu_state` alone, so the processor idles by the buttons alone; when it
wakes, the boundary accepts or not as before, since `accepts` does not read `cpu_state`. -/
theorem stoppedProcessor : Obligations.StoppedProcessor := by
  intro s hfault hstopped b w
  have hb : b.cpu.cpuState = .stopped := (congrArg Cpu.cpuState (beginTick_cpu s)).trans hstopped
  have haccepts : accepts w = accepts b := rfl
  rw [step_of_not_fault hfault]
  refine ⟨?idle, ?interrupt, ?instruction⟩
  case idle => exact fun hbuttons => runCpu_of_idles ((idles_stopped hb).mpr hbuttons)
  case interrupt =>
    intro hbuttons hacc
    exact (runCpu_stopped hb hbuttons).trans (runBoundary_of_accepts (haccepts.trans hacc))
  case instruction =>
    intro hbuttons hacc
    exact (runCpu_stopped hb hbuttons).trans (runBoundary_of_not_accepts (haccepts.trans hacc))

end Sys2Proof.Machine

/-! # Accumulator arithmetic and logic (43_alu8.md R200 to R226) -/

namespace Sys2Proof.Machine

/-! ## A result's flags, in integers and bit by bit -/

section flags
variable {a b v : Byte} {cin : Bool} {x : Regs}

/-- A register file that holds a result's flags byte has the result's four flags (R13). -/
theorem flagsAre_of_f_eq_byte {q : Flagged} (hf : x.f = q.byte) : x.flagsAre q.z q.n q.h q.c := by
  unfold Regs.flagsAre Regs.flagZ Regs.flagN Regs.flagH Regs.flagC
  rw [hf]
  exact flagsByte_bits q.z q.n q.h q.c

theorem beq_zero_eq_decide_toNat (v : Byte) : (v == 0) = decide (v.toNat = 0) := by
  rw [Bool.beq_eq_decide_eq, decide_eq_decide]
  exact BitVec.toNat_eq

theorem add8_value_toNat :
    (add8 a b cin).value.toNat = (a.toNat + b.toNat + boolNat cin) % 256 :=
  BitVec.toNat_ofNat _ 8

theorem sub8_value_toNat :
    ((sub8 a b cin).value.toNat : Int) = ((a.toNat : Int) - b.toNat - boolNat cin) % 256 := by
  cases cin <;> simp only [sub8, boolNat] <;> bv_omega

/-- `add8` is `Add8` (R200). -/
theorem isSum_add8 (hf : x.f = (add8 a b cin).byte) : isSum a b cin (add8 a b cin).value x := by
  have hz : (add8 a b cin).z = decide ((a.toNat + b.toNat + boolNat cin) % 256 = 0) := by
    rw [← add8_value_toNat]
    exact beq_zero_eq_decide_toNat _
  refine ⟨add8_value_toNat, ?_⟩
  rw [← hz]
  exact flagsAre_of_f_eq_byte hf

/-- `sub8` is `Sub8` (R201): its borrows, comparisons of naturals, are the signs of the differences. -/
theorem isDifference_sub8 (hf : x.f = (sub8 a b cin).byte) :
    isDifference a b cin (sub8 a b cin).value x := by
  have hz : (sub8 a b cin).z = decide (((a.toNat : Int) - b.toNat - boolNat cin) % 256 = 0) := by
    rw [← sub8_value_toNat, decide_eq_decide.mpr Int.natCast_eq_zero]
    exact beq_zero_eq_decide_toNat _
  have hh : (sub8 a b cin).h = decide ((a.toNat % 16 : Int) - b.toNat % 16 - boolNat cin < 0) :=
    decide_eq_decide.mpr (by omega)
  have hc : (sub8 a b cin).c = decide ((a.toNat : Int) - b.toNat - boolNat cin < 0) :=
    decide_eq_decide.mpr (by omega)
  refine ⟨sub8_value_toNat, ?_⟩
  rw [← hz, ← hh, ← hc]
  exact flagsAre_of_f_eq_byte hf

/-- A logic result whose bits are those of `g` (R215 to R223). -/
theorem isLogic_logic8 {g : Bool → Bool → Bool} {h : Bool}
    (hbits : ∀ k, bit v k = g (bit a k) (bit b k)) (hf : x.f = (logic8 v h).byte) :
    isLogic g h a b v x := by
  refine ⟨fun k _ => hbits k, ?_⟩
  rw [← Bool.beq_eq_decide_eq]
  exact flagsAre_of_f_eq_byte hf

end flags

/-! ## The register file after an accumulator operation (R202) -/

/-- Every accumulator operation meets its rule on the register file (R203 to R226). -/
theorem aluSpec_alu (x : Regs) (o : AluOp) (v : Byte) : aluSpec o x.a v x.flagC (x.alu o v) := by
  cases o
  case add | adc => exact isSum_add8 rfl
  case sub | sbc => exact isDifference_sub8 rfl
  case and => exact isLogic_logic8 (fun k => BitVec.getLsbD_and) rfl
  case xor => exact isLogic_logic8 (fun k => BitVec.getLsbD_xor) rfl
  case or => exact isLogic_logic8 (fun k => BitVec.getLsbD_or) rfl
  case cp => exact ⟨rfl, _, isDifference_sub8 rfl⟩

/-- An accumulator operation writes `A` and `F` only. -/
theorem onlyFlagsAnd_alu (x : Regs) (o : AluOp) (v : Byte) : onlyFlagsAnd [.a] x (x.alu o v) := by
  refine ⟨fun r hr => ?_, rfl, rfl, flagsByte_low _ _ _ _⟩
  cases r
  case a => exact absurd List.mem_cons_self hr
  all_goals rfl

/-- In each operand form the instruction applies the operation to its operand, in the cycle in which the operand is
at hand (R202). -/
theorem exec_aluOperand {i : Instr} {s u : State} {o : AluOp} {v : Byte}
    (h : aluOperand i s = some (o, v, u)) :
    ∃ t, exec i s = .next t ∧ sameButRegs u t (s.regs.alu o v) := by
  have hexec := exec_form i s (fun hp => by simp [aluOperand, hp] at h)
    (fun hu => by simp [aluOperand, hu] at h)
  unfold aluOperand at h
  unfold operands at hexec
  split at h
  next o r hform =>
    cases h
    rw [hform] at hexec
    exact ⟨_, hexec, rfl, rfl⟩
  next o hform =>
    cases h
    rw [hform] at hexec
    exact ⟨_, hexec, rfl, rfl⟩
  next o hform =>
    cases h
    rw [hform] at hexec
    refine ⟨_, hexec, ?_, rfl⟩
    rw [← nextCycle_regs s]
    rfl
  next => cases h

/-- Settles O22: each operand form runs `Regs.alu` on its operand, and `Regs.alu` meets the integer and bitwise rules
operation by operation. -/
theorem accumulatorOperations : Obligations.AccumulatorOperations := by
  intro i s o v u h
  obtain ⟨t, hexec, hregs, houtside⟩ := exec_aluOperand h
  refine ⟨t, hexec, ?_, ?_, houtside⟩
  · rw [hregs]; exact aluSpec_alu s.regs o v
  · rw [hregs]; exact onlyFlagsAnd_alu s.regs o v

end Sys2Proof.Machine

/-! # The stack pointer with a displacement (44_alu16.md R243, R244; 42_load16.md R195) -/

namespace Sys2Proof.Machine

/-! ## `AddSpE` in integers -/

section addSpE
variable (s : Word) (e : Byte)

/-- `sext_int(e)` (R244) is the two's complement value of the byte. -/
theorem toInt_byte :
    e.toInt = if e.toNat < 0x80 then (e.toNat : Int) else (e.toNat : Int) - 256 := by
  by_cases h : e.toNat < 0x80
  · rw [BitVec.toInt_eq_toNat_cond, if_pos (by omega), if_pos h]
  · rw [BitVec.toInt_eq_toNat_cond, if_neg (by omega), if_neg h]; rfl

/-- The 16-bit sum is the integer sum modulo 2^16, whatever the sign of the displacement (R244). -/
theorem addSpValue_toNat : ((addSpValue s e).toNat : Int) = ((s.toNat : Int) + e.toInt) % 65536 := by
  have hsext : ((sext16 e).toNat : Int) = e.toInt % 65536 := by
    rw [sext16, BitVec.signExtend, BitVec.toNat_ofInt]
    exact Int.toNat_of_nonneg (Int.emod_nonneg _ (by decide))
  rw [addSpValue, BitVec.toNat_add, Int.natCast_mod, Int.natCast_add, hsext]
  exact Int.add_emod_emod ..

/-- The flags of `AddSpE` are `Z` and `N` clear and the carries of the unsigned low-byte addition (R244). -/
theorem flagsAre_of_f_eq_addSpFlags {x : Regs} (hf : x.f = addSpFlags s e) :
    x.flagsAre false false (decide (s.toNat % 16 + e.toNat % 16 > 0xF))
      (decide (s.toNat % 256 + e.toNat > 0xFF)) :=
  flagsAre_of_f_eq_byte (q := ⟨0, false, false, _, _⟩) hf

end addSpE

/-! ## The register file after the two instructions -/

section regs
variable (x : Regs) (e : Byte)

theorem hl_ldHlSp : (x.ldHlSp e).hl = addSpValue x.sp e := join_high_low _

/-- `LD HL,SP+e` writes `H`, `L` and `F` only. -/
theorem onlyFlagsAnd_ldHlSp : onlyFlagsAnd [.h, .l] x (x.ldHlSp e) := by
  refine ⟨fun r hr => ?_, rfl, rfl, flagsByte_low _ _ _ _⟩
  cases r
  case h | l => exact absurd hr (by decide)
  all_goals rfl

end regs

/-! ## The two instructions, in the cycle of their last fetch -/

section exec
variable {i : Instr} {s : State}

/-- An instruction with one immediate byte runs its form's sequence on the fetched byte (R147). -/
theorem exec_of_one_immediate (h : (formImmediates i.form).length = 1) :
    exec i s = .next (runSeq (formSeq i.form) (s.withTmp8 i.imm8)) := by
  have hp : i.form ≠ .prefixCb := fun hf => absurd (hf ▸ h) (by decide)
  have hu : i.form ≠ .undefined := fun hf => absurd (hf ▸ h) (by decide)
  have hops : operands i s = s.withTmp8 i.imm8 := by simp only [operands, h]
  rw [exec_form i s hp hu, hops]

theorem runSeq_seqAddSpE (s : State) (e : Byte) :
    runSeq seqAddSpE (s.withTmp8 e)
      = ((idleCycles 2 s).withTmp8 e).withRegs (s.regs.addSp e) := by
  simp [seqAddSpE, idleCycles]

theorem runSeq_seqLdHlSpE (s : State) (e : Byte) :
    runSeq seqLdHlSpE (s.withTmp8 e)
      = ((idleCycles 1 s).withTmp8 e).withRegs (s.regs.ldHlSp e) := by
  simp [seqLdHlSpE, idleCycles]

/-- `ADD SP,e` writes the register file two cycles later (R243). -/
theorem exec_addSpE (h : i.form = .addSpE) :
    ∃ t, exec i s = .next t ∧ sameButRegs (idleCycles 2 s) t (s.regs.addSp i.imm8) := by
  refine ⟨_, exec_of_one_immediate (by rw [h]; rfl), ?_⟩
  rw [h, formSeq, runSeq_seqAddSpE]
  exact ⟨rfl, by rw [outside_withRegs, outside_withTmp8]⟩

/-- `LD HL,SP+e` writes the register file one cycle later (R195). -/
theorem exec_ldHlSpE (h : i.form = .ldHlSpE) :
    ∃ t, exec i s = .next t ∧ sameButRegs (idleCycles 1 s) t (s.regs.ldHlSp i.imm8) := by
  refine ⟨_, exec_of_one_immediate (by rw [h]; rfl), ?_⟩
  rw [h, formSeq, runSeq_seqLdHlSpE]
  exact ⟨rfl, by rw [outside_withRegs, outside_withTmp8]⟩

end exec

/-- Settles O27: both instructions take `AddSpE` of `sp` and the fetched byte, whose value is the integer sum and whose
flags are the low byte's, to the register each of them writes. -/
theorem stackPointerOffset : Obligations.StackPointerOffset := by
  intro i s a e sum hf cf
  have hsum : ((addSpValue s.regs.sp i.imm8).toNat : Int) = sum := by
    rw [addSpValue_toNat, toInt_byte]
  refine ⟨fun hform => ?addSp, fun hform => ?ldHlSp⟩
  case addSp =>
    obtain ⟨t, hexec, hregs, houtside⟩ := exec_addSpE (s := s) hform
    refine ⟨t, hexec, ?_, ?_, ?_, houtside⟩ <;> rw [hregs]
    · exact hsum
    · exact flagsAre_of_f_eq_addSpFlags _ _ rfl
    · rfl
  case ldHlSp =>
    obtain ⟨t, hexec, hregs, houtside⟩ := exec_ldHlSpE (s := s) hform
    refine ⟨t, hexec, ?_, ?_, ?_, houtside⟩ <;> rw [hregs]
    · rw [hl_ldHlSp]; exact hsum
    · exact flagsAre_of_f_eq_addSpFlags _ _ rfl
    · exact onlyFlagsAnd_ldHlSp _ _

end Sys2Proof.Machine

/-! # Rotates and shifts (45_rotate_shift_bit.md R245 to R266) -/

namespace Sys2Proof.Machine

/-! ## The one-bit operations, bit by bit (R245) -/

section bits
variable (v : Byte) (c : Bool)

/-- A rotation takes each bit from `8 - r` places above it, modulo 8. -/
theorem bit_rotateLeft {r k : Nat} (hr : r < 8) (hk : k < 8) :
    bit (v.rotateLeft r) k = bit v ((k + (8 - r)) % 8) := by
  unfold bit
  rw [BitVec.getLsbD_rotateLeft, Nat.mod_eq_of_lt hr]
  by_cases h : k < r
  · rw [decide_eq_true h, cond_true, Nat.add_comm, Nat.mod_eq_of_lt (by omega)]
  · rw [decide_eq_false h, cond_false, decide_eq_true hk, Bool.true_and,
      show (k + (8 - r)) % 8 = k - r by omega]

theorem bit_flagAt {i k : Nat} (hi : i < 8) : bit (flagAt c i) k = (c && decide (i = k)) := by
  cases c
  case false => exact BitVec.getLsbD_zero
  case true => exact (BitVec.getLsbD_twoPow i k).trans (by rw [decide_eq_true hi])

theorem bit_or_flagAt {i : Nat} (hi : i < 8) (k : Nat) :
    bit (v ||| flagAt c i) k = (bit v k || (c && decide (i = k))) := by
  rw [← bit_flagAt c hi]
  exact BitVec.getLsbD_or

/-- A shift left with `c` coming in moves each bit one place up and puts `c` into bit 0. -/
theorem bit_shiftLeft_or_flagAt :
    bit ((v <<< 1) ||| flagAt c 0) 0 = c
      ∧ ∀ k, k < 7 → bit ((v <<< 1) ||| flagAt c 0) (k + 1) = bit v k := by
  refine ⟨?_, fun k hk => ?_⟩ <;> rw [bit_or_flagAt _ c (by decide)]
  · simp [bit]
  · simp [bit, show k + 1 < 8 by omega, BitVec.getLsbD_eq_getElem (show k < 8 by omega)]

/-- A shift right with `c` coming in moves each bit one place down and puts `c` into bit 7. -/
theorem bit_shiftRight_or_flagAt :
    bit ((v >>> 1) ||| flagAt c 7) 7 = c
      ∧ ∀ k, k < 7 → bit ((v >>> 1) ||| flagAt c 7) k = bit v (k + 1) := by
  refine ⟨?_, fun k hk => ?_⟩ <;> rw [bit_or_flagAt _ c (by decide)]
  · simp [bit]
  · simp [bit, show 7 ≠ k by omega, Nat.add_comm]

/-- `SLA` is `RL` with a clear bit coming in. -/
theorem rotResult_sla : rotResult .sla v c = rotResult .rl v false := by
  simp [rotResult, flagAt]

/-- `SRL` is `RR` with a clear bit coming in. -/
theorem rotResult_srl : rotResult .srl v c = rotResult .rr v false := by
  simp [rotResult, flagAt]

/-- `SRA` is `RR` with bit 7 coming in. -/
theorem rotResult_sra : rotResult .sra v c = rotResult .rr v (bit v 7) := by
  have hsign : v &&& 0x80 = flagAt (bit v 7) 7 := BitVec.and_twoPow v 7
  rw [rotResult, rotResult, hsign]

/-- `rotResult` is `rot[y]`: a rotation of the byte, or a shift of it with a bit coming in (R245). -/
theorem rotSpec_rotResult (o : RotOp) : rotSpec o v c (rotResult o v c).value (rotResult o v c).carry := by
  have left (b : Bool) := bit_shiftLeft_or_flagAt v b
  have right (b : Bool) := bit_shiftRight_or_flagAt v b
  cases o
  case rlc => exact ⟨fun k hk => bit_rotateLeft v (r := 1) (by decide) hk, rfl⟩
  case rrc =>
    refine ⟨fun k hk => ?_, rfl⟩
    rw [rotResult, BitVec.or_comm]
    exact bit_rotateLeft v (r := 7) (by decide) hk
  case swap => exact ⟨fun k hk => bit_rotateLeft v (r := 4) (by decide) hk, rfl⟩
  case rl => exact and_assoc.mp ⟨left c, rfl⟩
  case rr => exact and_assoc.mp ⟨right c, rfl⟩
  case sla =>
    rw [rotResult_sla]
    exact and_assoc.mp ⟨left false, rfl⟩
  case sra =>
    rw [rotResult_sra]
    exact and_assoc.mp ⟨right _, rfl⟩
  case srl =>
    rw [rotResult_srl]
    exact and_assoc.mp ⟨right false, rfl⟩

end bits

/-! ## The register file after an operation -/

section regs
variable (x : Regs) (o : RotOp) (r : Reg8) (v : Byte) (z n h c : Bool)

theorem Regs.get_withF (f : Byte) : ({ x with f := f } : Regs).get r = x.get r := by
  cases r <;> rfl

/-- A result and its flags byte change the one register and `F`. -/
theorem onlyFlagsAnd_set_flagsByte :
    onlyFlagsAnd [r] x { x.set r v with f := flagsByte z n h c } := by
  refine ⟨fun r' hr' => ?_, x.set_sp r v, x.set_pc r v, flagsByte_low z n h c⟩
  rw [Regs.get_withF, Regs.get_set_other x v (List.ne_of_not_mem_cons hr')]

theorem onlyFlagsAnd_flagsByte : onlyFlagsAnd [] x { x with f := flagsByte z n h c } :=
  ⟨fun r _ => x.get_withF r _, rfl, rfl, flagsByte_low z n h c⟩

/-- The register holds `rot[y]` of what it held (R251 to R265). -/
theorem get_rotReg : (x.rotReg o r).get r = (rotResult o (x.get r) x.flagC).value :=
  ((x.set r _).get_withF r _).trans (x.get_set_same r _)

/-- A register file with the flags byte of a second-table operation has `Z` by the result and its carry
(R251 to R266). -/
theorem flagsAre_of_f_eq_flags {x : Regs} {q : Shifted} (hf : x.f = q.flags) :
    x.flagsAre (decide (q.value = 0)) false false q.carry := by
  rw [← Bool.beq_eq_decide_eq]
  exact flagsAre_of_f_eq_byte (q := ⟨0, q.value == 0, false, false, q.carry⟩) hf

end regs

/-! ## The three forms, in the cycle that fetches the opcode -/

section exec
variable {i : Instr} {s : State} {o : RotOp}

theorem formImmediates_of_rotateBit {f : Form} (h : f.family = .rotateBit) : formImmediates f = [] := by
  cases f <;> cases h <;> rfl

/-- No instruction of the rotate, shift and bit family has an immediate: it runs its form's sequence at once. -/
theorem exec_of_rotateBit (h : i.form.family = .rotateBit) :
    exec i s = .next (runSeq (formSeq i.form) s) := by
  have hp : i.form ≠ .prefixCb := fun hf => absurd (hf ▸ h) (by decide)
  have hu : i.form ≠ .undefined := fun hf => absurd (hf ▸ h) (by decide)
  have hops : operands i s = s := by rw [operands, formImmediates_of_rotateBit h]; rfl
  rw [exec_form i s hp hu, hops]

/-- An accumulator rotate rewrites the register file in its fetch cycle (R246 to R249). -/
theorem exec_rotA (hfam : i.form.family = .rotateBit) (hseq : formSeq i.form = seqRotA o) :
    exec i s = .next (s.withRegs (s.regs.rotA o)) := by
  rw [exec_of_rotateBit hfam, hseq]
  rfl

/-- The register form rewrites the register file in the cycle that fetches its second byte (R250). -/
theorem exec_rotR {r : Reg8} (h : i.form = .rotR o r) :
    exec i s = .next (s.withRegs (s.regs.rotReg o r)) := by
  rw [exec_of_rotateBit (by rw [h]; rfl), h]
  rfl

/-- The byte at `HL` is read one cycle after the fetch and its result written one cycle later, with the flags
(R250, R252; log 26). -/
theorem exec_rotHl (h : i.form = .rotHl o) :
    let v := memRead (idleCycles 1 s) s.regs.hl
    let q := rotResult o v s.regs.flagC
    exec i s = .next (((memWrite (idleCycles 2 s) s.regs.hl q.value).withTmp8 v).withRegs
      { s.regs with f := q.flags }) := by
  intro v q
  rw [exec_of_rotateBit (by rw [h]; rfl), h]
  simp [formSeq, seqRotHl, readTemp, idleCycles, v, q]

end exec

/-- Settles O28: each form applies `rotResult` to its operand in the cycle its rule names, and `rotResult` meets R245
bit by bit: three of the eight operations are rotations, the other five are shifts with a bit coming in. -/
theorem rotatesAndShifts : Obligations.RotatesAndShifts := by
  intro i s o v c
  refine ⟨fun hform => ?accumulator, fun r hform => ?register, fun hform => ?memory⟩
  case accumulator =>
    have hexec : exec i s = .next (s.withRegs (s.regs.rotA o)) := by
      obtain ⟨h, rfl⟩ | ⟨h, rfl⟩ | ⟨h, rfl⟩ | ⟨h, rfl⟩ := hform <;>
        exact exec_rotA (by rw [h]; rfl) (by rw [h]; rfl)
    refine ⟨_, _, hexec, rotSpec_rotResult s.regs.a c o, ?_, ?_, outside_withRegs s _⟩
    · exact flagsAre_of_f_eq_byte (q := ⟨0, false, false, false, _⟩) rfl
    · exact onlyFlagsAnd_set_flagsByte s.regs .a _ _ _ _ _
  case register =>
    refine ⟨_, (rotResult o (s.regs.get r) c).carry, exec_rotR hform, ?_, ?_, ?_, outside_withRegs s _⟩
    · rw [State.withRegs_regs, get_rotReg]
      exact rotSpec_rotResult _ c o
    · rw [State.withRegs_regs, get_rotReg]
      exact flagsAre_of_f_eq_flags rfl
    · exact onlyFlagsAnd_set_flagsByte s.regs r _ _ _ _ _
  case memory =>
    refine ⟨_, _, _, exec_rotHl hform, rotSpec_rotResult v c o, ?_, ?_, ?_⟩
    · exact flagsAre_of_f_eq_flags rfl
    · exact onlyFlagsAnd_flagsByte s.regs _ _ _ _
    · rw [outside_withRegs, outside_withTmp8]

end Sys2Proof.Machine

/-! # The I/O window by offset -/

namespace Sys2Proof.Machine

section io
variable {s : State} {a : Word} {v : Byte} {off : Nat}

theorem handler_offset (off : Nat) (ha : a.toNat = 0xFF00 + off) (hoff : off < 0x80) :
    handler s a = .io off := by
  rw [handler_io (by omega) (by omega), ha, Nat.add_sub_cancel_left]

theorem memRead_offset (off : Nat) (ha : a.toNat = 0xFF00 + off) (hoff : off < 0x80) :
    memRead s a = readIo s off := by
  rw [memRead, handler_offset off ha hoff]; rfl

theorem memWrite_offset (off : Nat) (ha : a.toNat = 0xFF00 + off) (hoff : off < 0x80) :
    memWrite s a v = writeIo s off v := by
  rw [memWrite, handler_offset off ha hoff]; rfl

/-! From 0xFF51 on a register exists on `CGB` only (10_state.md R35). -/

theorem readIo_above_boot_dmg (h : s.cfg.rev = .dmg) (hoff : 0x50 < off) : readIo s off = 0xFF := by
  rw [readIo, if_neg (by omega), if_neg (by omega), if_neg (by omega), if_neg (by omega), if_neg (by omega), h]
  rfl

theorem writeIo_above_boot_dmg (h : s.cfg.rev = .dmg) (hoff : 0x50 < off) : writeIo s off v = s := by
  rw [writeIo, if_neg (by omega), if_neg (by omega), if_neg (by omega), if_neg (by omega), if_neg (by omega), h]

theorem readIo_above_boot_cgb (h : s.cfg.rev = .cgb) (hoff : 0x50 < off) : readIo s off = readCgb s off := by
  rw [readIo, if_neg (by omega), if_neg (by omega), if_neg (by omega), if_neg (by omega), if_neg (by omega), h]

theorem writeIo_above_boot_cgb (h : s.cfg.rev = .cgb) (hoff : 0x50 < off) :
    writeIo s off v = writeCgb s off v := by
  rw [writeIo, if_neg (by omega), if_neg (by omega), if_neg (by omega), if_neg (by omega), if_neg (by omega), h]

end io

end Sys2Proof.Machine

/-! # The timer (60_exceptions.md R330 to R336) -/

namespace Sys2Proof.Machine

/-! ## One tick (R332 to R334) -/

/-- The timer in a tick before its edge detector counts: reloaded, advanced, and the gated bit sampled (R333, R334). -/
def Timer.sampled (cfg : Config) (t : Timer) : Timer :=
  { t with
    divider := t.divider + BitVec.ofNat 16 cfg.tcycPerStep
    tima := if t.reload = .pending then t.tma else t.tima
    reload := if t.reload = .pending then .reloaded else .idle
    bitPrev := (t.advance cfg.tcycPerStep).gatedBit }

/-- Whether the tick has the clocking edge (R333). -/
def Timer.clocked (cfg : Config) (t : Timer) : Bool :=
  timerEdgeSeen cfg.timerEdge t.bitPrev (t.sampled cfg).bitPrev

section tick
variable (cfg : Config) (t : Timer)

theorem timerBitIndex_eq_getD (tac : BitVec 3) :
    timerBitIndex (tac.setWidth 2) = [9, 3, 5, 7].getD (tac.toNat % 4) 0 := by
  revert tac
  decide

theorem timerEdgeSeen_iff (e : TimerEdge) (before now : Bool) :
    timerEdgeSeen e before now = true ↔
      (e = .rising ∧ before = false ∧ now = true) ∨ (e = .falling ∧ before = true ∧ now = false) := by
  cases e
  · simp [timerEdgeSeen]
  · simp [timerEdgeSeen]

theorem Timer.step_eq_sampled :
    t.step cfg = if t.clocked cfg = true then (t.sampled cfg).count else t.sampled cfg := by
  obtain ⟨divider, tima, tma, tac, reload, bitPrev⟩ := t
  cases reload <;> rfl

/-- A count changes `TIMA` and the reload state only. -/
theorem Timer.count_frame : t.count = { t with tima := t.count.tima, reload := t.count.reload } := by
  unfold Timer.count
  split <;> rfl

/-- But for `TIMA` and the reload state, the timer after a tick is as sampled. -/
theorem Timer.step_frame :
    t.step cfg = { t.sampled cfg with tima := (t.step cfg).tima, reload := (t.step cfg).reload } := by
  rw [Timer.step_eq_sampled]
  split
  · exact Timer.count_frame _
  · rfl

variable {cfg t}

/-- The overflow of R334. -/
theorem Timer.step_overflow (h : t.clocked cfg = true) (hff : (t.sampled cfg).tima = 0xFF) :
    t.step cfg = { t.sampled cfg with tima := 0, reload := .pending } := by
  rw [Timer.step_eq_sampled, if_pos h, Timer.count, if_pos hff]

theorem Timer.step_count (h : t.clocked cfg = true) (hff : (t.sampled cfg).tima ≠ 0xFF) :
    t.step cfg = { t.sampled cfg with tima := (t.sampled cfg).tima + 1 } := by
  rw [Timer.step_eq_sampled, if_pos h, Timer.count, if_neg hff]

theorem Timer.step_of_not_clocked (h : ¬t.clocked cfg = true) : t.step cfg = t.sampled cfg := by
  rw [Timer.step_eq_sampled, if_neg h]

theorem Timer.step_reload_of_no_overflow (h : ¬t.clocked cfg = true ∨ (t.sampled cfg).tima ≠ 0xFF) :
    (t.step cfg).reload = (t.sampled cfg).reload := by
  by_cases hc : t.clocked cfg = true
  · rw [Timer.step_count hc (h.resolve_left (not_not_intro hc))]
  · rw [Timer.step_of_not_clocked hc]

/-- The pending reload is the one that requests interrupt 2 (R334). -/
theorem requestIf_requests (q : Irq) :
    q.requestIf t.requests 2 = if t.reload = .pending then { q with flags := q.flags ||| 4 } else q := by
  rw [Irq.requestIf, Timer.requests]
  cases t.reload <;> rfl

end tick

/-- Settles O45: the timer is sampled, and then counts on the clocking edge only; what a count does turns on whether
`TIMA` is 0xFF after the reload. -/
theorem timerTick : Obligations.TimerTick := by
  intro s t sel next now edge before
  have hsampled : (s.timer.sampled s.cfg).bitPrev = now :=
    congrArg (fun k => bit next k && bit s.timer.tac 2) (timerBitIndex_eq_getD s.timer.tac)
  have hedge : s.timer.clocked s.cfg = true ↔ edge := by
    rw [Timer.clocked, hsampled]
    exact timerEdgeSeen_iff _ _ _
  have hframe := Timer.step_frame s.cfg s.timer
  refine ⟨congrArg Timer.divider hframe, (congrArg Timer.bitPrev hframe).trans hsampled,
    (congrArg Timer.tma hframe :), (congrArg Timer.tac hframe :), ?overflow, ?count, ?noEdge, ?reload,
    requestIf_requests s.irq⟩
  case overflow =>
    intro he hff
    have hstep := Timer.step_overflow (hedge.mpr he) hff
    exact ⟨congrArg Timer.tima hstep, congrArg Timer.reload hstep⟩
  case count => exact fun he hff => congrArg Timer.tima (Timer.step_count (hedge.mpr he) hff)
  case noEdge => exact fun he => congrArg Timer.tima (Timer.step_of_not_clocked (mt hedge.mp he))
  case reload => exact fun h => Timer.step_reload_of_no_overflow (h.imp_left (mt hedge.mp))

/-! ## Register writes (R331, R332, R335, R336) -/

/-- Settles O46: each address is its register's offset in the I/O window, and the writes of TIMA and TMA are split by
the reload state. -/
theorem timerWrites : Obligations.TimerWrites := by
  intro s v
  refine ⟨memWrite_offset 0x04 rfl (by decide), memRead_offset 0x04 rfl (by decide),
    (memWrite_offset 0x05 rfl (by decide)).trans ?tima, (memWrite_offset 0x06 rfl (by decide)).trans ?tma,
    memWrite_offset 0x07 rfl (by decide), memRead_offset 0x07 rfl (by decide)⟩
  case tima =>
    change { s with timer := s.timer.writeTima v } = _
    cases h : s.timer.reload <;> simp [Timer.writeTima, h]
  case tma =>
    change { s with timer := s.timer.writeTma v } = _
    cases h : s.timer.reload <;> simp [Timer.writeTma, h]

end Sys2Proof.Machine

/-! # The sprite-table DMA (60_exceptions.md R340, R341) -/

namespace Sys2Proof.Machine

section oamCopy
variable {s : State} {a src : Word} {n i j k : Nat} {v : Byte}

/-- Only an address of the sprite table resolves to it, and to the cell at its own offset. -/
theorem toNat_of_handler_oam (h : handler s a = .oam k) : a.toNat = 0xFE00 + k ∧ k < 160 := by
  by_cases hrom : a.toNat < 0x8000
  · rw [handler_of_lt hrom] at h
    obtain ⟨i, hi⟩ | ⟨i, hi⟩ := romHandler_cases s a.toNat
    · cases hi.symm.trans h
    · cases hi.symm.trans h
  rw [handler_of_ge (by omega), highHandler, extHandler] at h
  obtain ⟨i, hi⟩ := wramHandler_eq_wram s (a.toNat - 0xC000)
  obtain ⟨j, hj⟩ := wramHandler_eq_wram s (a.toNat - 0xE000)
  rw [hi, hj] at h
  split_ifs at h
  · split at h <;> cases h
  · have hoff := Handler.oam.inj h
    omega

/-- Byte `j` of a source page that overlaps the sprite table is the table's own byte `j`. -/
theorem handler_page_oam (h : handler s (join v 0 + BitVec.ofNat 16 j) = .oam k) (hj : j < 160) : k = j := by
  obtain ⟨ha, hk⟩ := toNat_of_handler_oam h
  have hpage : (join v 0).toNat = v.toNat * 256 := by
    rw [join, BitVec.toNat_append v 0, Nat.shiftLeft_eq]
    exact Nat.or_zero _
  rw [BitVec.toNat_add, BitVec.toNat_ofNat, hpage] at ha
  omega

/-- A byte stored in the sprite table is read at its own address only. -/
theorem memRead_writeOam (h : handler s a ≠ .oam i) : memRead (writeOam s i v) a = memRead s a := by
  have hmap : handler (writeOam s i v) a = handler s a := rfl
  rw [memRead, memRead, hmap]
  cases hq : handler s a with
  | oam k => exact cellRead_write_other _ _ fun e => h (hq.trans (congrArg Handler.oam e))
  | _ => rfl

/-- The copy changes the sprite table only. -/
theorem oamCopy_frame (src : Word) (n i : Nat) (s : State) :
    oamCopy src n i s = { s with store := { s.store with oam := (oamCopy src n i s).store.oam } } := by
  induction n generalizing i s with
  | zero => rfl
  | succ n ih => exact ih (i + 1) (writeOam s i _)

theorem oamCopy_oam_outside (h : j < i ∨ i + n ≤ j) :
    (oamCopy src n i s).store.oam.read j = s.store.oam.read j := by
  induction n generalizing i s with
  | zero => rfl
  | succ n ih =>
    rw [oamCopy, ih (by omega)]
    exact cellRead_write_other _ _ (by omega)

/-- Each byte in the range of the copy is what the ordinary map reads of it before the copy: a page that overlaps the
sprite table has each byte read before that byte is written, and written to itself. -/
theorem oamCopy_oam_inside (hm : s.store.oam.wf = true) (hlo : i ≤ j) (hhi : j < i + n) (hj : j < 160) :
    (oamCopy (join v 0) n i s).store.oam.read j = memRead s (join v 0 + BitVec.ofNat 16 j) := by
  induction n generalizing i s with
  | zero => omega
  | succ n ih =>
    rw [oamCopy]
    obtain rfl | hlt := Nat.eq_or_lt_of_le hlo
    · rw [oamCopy_oam_outside (.inl (Nat.lt_succ_self i))]
      exact cellRead_write_same i _ hm
    · rw [ih (cellsWf_write i _ hm) hlt (by omega)]
      exact memRead_writeOam fun h => hlt.ne (handler_page_oam h hj)

theorem memWrite_dma : memWrite s 0xFF46 v = writeDma s v := memWrite_offset 0x46 rfl (by decide)

theorem memRead_dma : memRead s 0xFF46 = s.dma.oamDmaSrc := memRead_offset 0x46 rfl (by decide)

end oamCopy

/-- Settles O47: the write is the copy of cells 0 to 159, which reads each source byte as it was before the write. -/
theorem spriteDma : Obligations.SpriteDma := by
  intro s v hm u t
  have ht : t = oamCopy (join v 0) 160 0 u := memWrite_dma
  clear_value t
  subst ht
  have hoam : u.store.oam.wf = true := ((memWf_iff s).mp hm).oam
  have hframe := oamCopy_frame (join v 0) 160 0 u
  refine ⟨fun i hi => ?_, fun i hi => ?_, hframe, ?_⟩
  · exact oamCopy_oam_inside hoam (Nat.zero_le i) (by omega) hi
  · exact oamCopy_oam_outside (.inr (by omega))
  · exact memRead_dma.trans (congrArg (fun q => q.dma.oamDmaSrc) hframe)

end Sys2Proof.Machine

/-! # The bulk copy engine (60_exceptions.md R343 to R349) -/

namespace Sys2Proof.Machine

/-! ## The registers (R343 to R345, R347, R348) -/

section registers
variable {s : State} {a : Word} {v : Byte} {d : Dma}

/-- On `DMG` the engine's addresses have no register (R348). -/
theorem hdma_absent (h : s.cfg.rev = .dmg) (hlo : 0xFF51 ≤ a.toNat) (hhi : a.toNat ≤ 0xFF55) :
    memRead s a = 0xFF ∧ memWrite s a v = s := by
  obtain ⟨off, ha⟩ := Nat.exists_eq_add_of_le (show 0xFF00 ≤ a.toNat by omega)
  rw [memRead_offset off ha (by omega), memWrite_offset off ha (by omega)]
  exact ⟨readIo_above_boot_dmg h (by omega), writeIo_above_boot_dmg h (by omega)⟩

/-- HDMA1 to HDMA4 are write-only (R343). -/
theorem memRead_hdma_address (h : s.cfg.rev = .cgb) (hlo : 0xFF51 ≤ a.toNat) (hhi : a.toNat ≤ 0xFF54) :
    memRead s a = 0xFF := by
  obtain ⟨off, ha⟩ := Nat.exists_eq_add_of_le (show 0xFF00 ≤ a.toNat by omega)
  rw [memRead_offset off ha (by omega), readIo_above_boot_cgb h (by omega)]
  obtain rfl | rfl | rfl | rfl : off = 0x51 ∨ off = 0x52 ∨ off = 0x53 ∨ off = 0x54 := by omega
  all_goals rfl

theorem memRead_hdma5 (h : s.cfg.rev = .cgb) : memRead s 0xFF55 = readHdma5 s.dma :=
  (memRead_offset 0x55 rfl (by decide)).trans (readIo_above_boot_cgb h (by decide))

theorem memWrite_hdma5 (h : s.cfg.rev = .cgb) :
    memWrite s 0xFF55 v = { s with dma := s.dma.writeHdma5 v } :=
  (memWrite_offset 0x55 rfl (by decide)).trans (writeIo_above_boot_cgb h (by decide))

theorem readHdma5_eq (d : Dma) :
    readHdma5 d = (if d.hdmaActive = true then 0 else 0x80) ||| d.hdmaBlocks.setWidth 8 := by
  rw [readHdma5]
  cases d.hdmaActive <;> rfl

theorem Dma.writeHdma5_hblank (hv : bit v 7 = true) : d.writeHdma5 v =
    { d with hdmaMode := .hblank, hdmaBlocks := v.setWidth 7, hdmaActive := true, hdmaBlockLeft := 0 } :=
  if_pos hv

theorem Dma.writeHdma5_general (hv : bit v 7 = false) (ha : d.hdmaActive = false) : d.writeHdma5 v =
    { d with hdmaMode := .general, hdmaBlocks := v.setWidth 7, hdmaActive := true, hdmaBlockLeft := 16 } := by
  simp [Dma.writeHdma5, hv, ha]

theorem Dma.writeHdma5_stop (hv : bit v 7 = false) (ha : d.hdmaActive = true) (hm : d.hdmaMode = .hblank) :
    d.writeHdma5 v = { d with hdmaActive := false } := by
  simp [Dma.writeHdma5, hv, ha, hm]

/-- An entry into `hblank` starts a block of a blanking-synchronised copy (R345). -/
theorem applyPpu_dma (h : s.cfg.rev = .cgb) (r : PpuRun) : (applyPpu s r).dma = { s.dma with
    hdmaBlockLeft := if r.hblankEntered = true ∧ s.dma.hdmaActive = true ∧ s.dma.hdmaMode = .hblank
      then 16 else s.dma.hdmaBlockLeft } := by
  simp [applyPpu, hblankCopies, h]

theorem cpuPart_stalled (h : s.dma.cpuStall = true) : cpuPart s = (s, !s.cpu.cpuFault) := if_pos h

theorem cpuPart_free (h : s.dma.cpuStall = false) : cpuPart s = cpuStep s := by
  rw [cpuPart, h]
  rfl

end registers

/-! ## One tick with a block in flight (R344, R349) -/

section copy
variable {s : State}

theorem and_0x1FFF_toNat (d : Word) : (d &&& 0x1FFF).toNat = d.toNat % 0x2000 :=
  (BitVec.toNat_and d 0x1FFF).trans (Nat.and_two_pow_sub_one_eq_mod d.toNat 13)

/-- The destination advances modulo the window of video RAM (R344). -/
theorem nextDst_toNat (d : Word) : (nextDst d).toNat = 0x8000 + (d.toNat + 1) % 0x2000 := by
  have hoff : ((d + 1) &&& 0x1FFF).toNat = (d.toNat + 1) % 0x2000 := by
    rw [and_0x1FFF_toNat, BitVec.toNat_add]
    exact Nat.mod_mod_of_dvd _ (by decide)
  rw [nextDst, BitVec.toNat_or, hoff]
  exact (Nat.two_pow_add_eq_or_of_lt (i := 13) (Nat.mod_lt _ (by decide)) 4).symm

theorem nextDst_nextDst (d : Word) :
    nextDst (nextDst d) = BitVec.ofNat 16 (0x8000 + (d.toNat + 2) % 0x2000) := by
  apply BitVec.eq_of_toNat_eq
  rw [nextDst_toNat, nextDst_toNat, BitVec.toNat_ofNat]
  omega

/-- No register shows how far the engine is in its block. -/
theorem memRead_copyPosition (s : State) (src dst : Word) (left : BitVec 5) (a : Word) :
    memRead { s with dma := { s.dma with hdmaSrc := src, hdmaDst := dst, hdmaBlockLeft := left } } a
      = memRead s a := rfl

/-- One byte of the copy, its cell in numbers. -/
theorem copyByte_eq (s : State) : copyByte s =
    { writeVram s (vramBankOf s * 0x2000 + s.dma.hdmaDst.toNat % 0x2000) (memRead s s.dma.hdmaSrc) with
      dma := { s.dma with
        hdmaSrc := s.dma.hdmaSrc + 1
        hdmaDst := nextDst s.dma.hdmaDst
        hdmaBlockLeft := s.dma.hdmaBlockLeft - 1 } } := by
  rw [copyByte, and_0x1FFF_toNat]
  rfl

/-- The bytes of a tick at the default rate, with two of the block left at least. -/
theorem copyBytes_two (h : 2 ≤ s.dma.hdmaBlockLeft.toNat) : copyBytes 2 s = copyByte (copyByte s) := by
  have hfirst : s.dma.hdmaBlockLeft ≠ 0 := by bv_omega
  have hsecond : (copyByte s).dma.hdmaBlockLeft ≠ 0 := by
    rw [copyByte_eq]
    show s.dma.hdmaBlockLeft - 1 ≠ 0
    bv_omega
  rw [copyBytes, if_neg hfirst, copyBytes, if_neg hsecond, copyBytes]

/-- Two bytes of the copy: the second is read after the first is stored, and lands in the next cell modulo the
window. -/
theorem copyByte_copyByte (s : State) :
    let cell (k : Nat) : Nat := vramBankOf s * 0x2000 + (s.dma.hdmaDst.toNat + k) % 0x2000
    let one := writeVram s (cell 0) (memRead s s.dma.hdmaSrc)
    copyByte (copyByte s) =
      { writeVram one (cell 1) (memRead one (s.dma.hdmaSrc + 1)) with
        dma := { s.dma with
          hdmaSrc := s.dma.hdmaSrc + 2
          hdmaDst := BitVec.ofNat 16 (0x8000 + (s.dma.hdmaDst.toNat + 2) % 0x2000)
          hdmaBlockLeft := s.dma.hdmaBlockLeft - 2 } } := by
  intro cell one
  have hsrc : s.dma.hdmaSrc + 1 + 1 = s.dma.hdmaSrc + 2 := by bv_omega
  have hleft : s.dma.hdmaBlockLeft - 1 - 1 = s.dma.hdmaBlockLeft - 2 := by bv_omega
  have hcell : (nextDst s.dma.hdmaDst).toNat % 0x2000 = (s.dma.hdmaDst.toNat + 1) % 0x2000 := by
    rw [nextDst_toNat]
    omega
  rw [copyByte_eq (copyByte s), copyByte_eq s, memRead_copyPosition]
  dsimp only
  rw [hsrc, hleft, hcell, nextDst_nextDst]
  rfl

/-- The engine stalls the processor and ends a block that has no byte left (R349). -/
theorem Dma.afterBytes_eq (d : Dma) : d.afterBytes =
    if d.hdmaBlockLeft ≠ 0 then { d with cpuStall := true }
    else if d.hdmaBlocks = 0 then { d with cpuStall := true, hdmaActive := false, hdmaBlocks := 0x7F }
    else { d with
      cpuStall := true
      hdmaBlocks := d.hdmaBlocks - 1
      hdmaBlockLeft := if d.hdmaMode = .general ∧ d.hdmaActive = true then 16 else 0 } := by
  rw [ite_not]
  rfl

theorem dmaStep_idle (h : s.dma.hdmaBlockLeft = 0) :
    dmaStep s = { s with dma := { s.dma with cpuStall := false } } := if_pos h

/-- A tick at the default rate, from the state its two bytes lead to. -/
theorem dmaStep_of_two {t : State} {d : Dma} (hrate : s.cfg.hdmaBytesPerCycle = 2)
    (h : 2 ≤ s.dma.hdmaBlockLeft.toNat) (hcopy : copyByte (copyByte s) = { t with dma := d }) :
    dmaStep s = { t with dma := d.afterBytes } := by
  have hleft : s.dma.hdmaBlockLeft ≠ 0 := by bv_omega
  rw [dmaStep, if_neg hleft, hrate, copyBytes_two h, hcopy]

end copy

/-- Settles O48: a tick with a block in flight is two bytes of the copy and the engine's end of the block; the other
clauses are the engine's registers, its start by the pipeline, and the stall. -/
theorem bulkCopy : Obligations.BulkCopy := by
  intro s v
  refine ⟨fun hdmg => ?dmg, fun hcgb => ?cgb, dmaStep_idle, ?block, cpuPart_stalled⟩
  case dmg =>
    have hfree := tickHead_stall s hdmg
    exact ⟨fun _ hlo hhi => hdma_absent hdmg hlo hhi, hfree, cpuPart_free hfree⟩
  case cgb =>
    have hwrite : (memWrite s 0xFF55 v).dma = s.dma.writeHdma5 v := congrArg State.dma (memWrite_hdma5 hcgb)
    refine ⟨(memRead_hdma5 hcgb).trans (readHdma5_eq _), fun _ => memRead_hdma_address hcgb,
      fun hv => hwrite.trans (Dma.writeHdma5_hblank hv),
      fun hv hoff => hwrite.trans (Dma.writeHdma5_general hv hoff),
      fun hv hon hmode => hwrite.trans (Dma.writeHdma5_stop hv hon hmode), ?_, applyPpu_dma hcgb⟩
    rw [timerDmaStep, hcgb]
  case block =>
    intro hrate hleft dst cell one two left d
    rw [dmaStep_of_two hrate hleft (copyByte_copyByte s), Dma.afterBytes_eq]

end Sys2Proof.Machine

/-! # The pixel pipeline (61_devices_ppu_apu.md R386 to R398) -/

namespace Sys2Proof.Machine

/-! ## The mode entries and the line compare (R387, R388, R392 to R394) -/

/-- The scan of the sprite table keeps the covering entries in index order, up to ten in all (R387). -/
theorem selectSprites_eq (lcdc : Byte) (ly : Nat) (oam : Memory) (todo i kept : Nat) :
    selectSprites lcdc ly oam todo i kept =
      ((List.range' i todo).filter fun j => spriteCovers lcdc ly (oamByte oam j 0).toNat).take (10 - kept) := by
  induction todo generalizing i kept with
  | zero => exact List.take_nil.symm
  | succ todo ih =>
    rw [selectSprites, List.range'_succ, List.filter_cons, ih, ih]
    by_cases hkept : kept < 10
    · have hroom : 10 - kept = 10 - (kept + 1) + 1 := by omega
      rw [if_pos hkept, apply_ite (List.take (10 - kept)), hroom, List.take_succ_cons]
    · rw [if_neg hkept, Nat.sub_eq_zero_of_le (Nat.le_of_not_lt hkept), List.take_zero]

theorem PpuRun.enterSearch_eq (r : PpuRun) (oam : Memory) : r.enterSearch oam =
    { r with
      statReq := r.statReq || bit r.ppu.statMask 2
      ppu := { r.ppu with
        mode := .search
        winLine := if r.ppu.ly = 0 then 0 else r.ppu.winLine
        lineSprites := ((List.range 40).filter fun i =>
          spriteCovers r.ppu.lcdc r.ppu.ly.toNat (oamByte oam i 0).toNat).take 10 } } := by
  rw [PpuRun.enterSearch, selectSprites_eq, List.range_eq_range']
  rfl

theorem PpuRun.lineCompare_eq (r : PpuRun) (v : Byte) : r.lineCompare v =
    { r with
      statReq := r.statReq || (decide (v = r.ppu.lyc) && bit r.ppu.statMask 3)
      ppu := { r.ppu with lycMatch := decide (v = r.ppu.lyc) } } := by
  rw [PpuRun.lineCompare, beq_eq_decide]
  rfl

/-! ## The requests of a run (R316, R345, R392 to R395) -/

theorem Irq.requestIf_eq (q : Irq) (c : Bool) (k : Nat) :
    q.requestIf c k = { q with flags := q.flags ||| if c = true then 1#5 <<< k else 0 } := by
  cases c
  · exact congrArg (Irq.mk q.ie) BitVec.or_zero.symm
  · rfl

theorem hblankCopies_iff {s : State} : hblankCopies s = true ↔
    s.cfg.rev = .cgb ∧ s.dma.hdmaActive = true ∧ s.dma.hdmaMode = .hblank := by
  simp only [hblankCopies, Bool.and_eq_true, beq_iff_eq, and_assoc]

theorem applyPpu_eq (s : State) (r : PpuRun) : applyPpu s r = { s with
    ppu := r.ppu
    irq := { s.irq with flags := s.irq.flags ||| (if r.vblankReq = true then 1 else 0)
      ||| (if r.statReq = true then 2 else 0) }
    dma := { s.dma with hdmaBlockLeft :=
      if r.hblankEntered = true ∧ s.cfg.rev = .cgb ∧ s.dma.hdmaActive = true ∧ s.dma.hdmaMode = .hblank
        then 16 else s.dma.hdmaBlockLeft } } := by
  simp only [applyPpu, Irq.requestIf_eq, Bool.and_eq_true, hblankCopies_iff]
  rfl

/-! ## The dots of a line (R385, R386) -/

theorem timingWf_iff {cfg : Config} : timingWf cfg = true ↔
    cfg.ppuReentryOffset < cfg.ppuD1 ∧ 0 < cfg.ppuD2 ∧ cfg.ppuD1 + cfg.ppuD2 < cfg.ppuLineDots
      ∧ 4 < cfg.ppuLineDots ∧ 0 < cfg.ppuVisibleLines ∧ cfg.ppuVisibleLines < cfg.ppuTotalLines
      ∧ cfg.ppuTotalLines ≤ 256 := by
  simp only [timingWf, Bool.and_eq_true, decide_eq_true_eq, and_assoc]

theorem Ppu.drawDot_dot (rev : Revision) (vram oam : Memory) (p : Ppu) :
    (p.drawDot rev vram oam).dot = p.dot := by
  unfold Ppu.drawDot
  split <;> rfl

theorem Ppu.drawDot_ly (rev : Revision) (vram oam : Memory) (p : Ppu) :
    (p.drawDot rev vram oam).ly = p.ly := by
  unfold Ppu.drawDot
  split <;> rfl

/-- The run with the dot drawn and counted, before the dot's mode entries (R386). -/
def PpuRun.advanced (cfg : Config) (vram oam : Memory) (r : PpuRun) : PpuRun :=
  { r with ppu := { r.ppu.drawDot cfg.rev vram oam with dot := r.ppu.dot + 1 } }

theorem PpuRun.advanced_ly (cfg : Config) (vram oam : Memory) (r : PpuRun) :
    (r.advanced cfg vram oam).ppu.ly = r.ppu.ly := Ppu.drawDot_ly _ _ _ _

theorem PpuRun.dot_eq_advanced (cfg : Config) (vram oam : Memory) (r : PpuRun) : r.dot cfg vram oam =
    (((r.advanced cfg vram oam).visibleEntries cfg).lastLine cfg).endLine cfg oam := by
  simp only [PpuRun.dot, Ppu.drawDot_dot, PpuRun.advanced]

section dot
variable {cfg : Config} {oam : Memory} {r : PpuRun}

theorem PpuRun.visibleEntries_transfer (hD2 : 0 < cfg.ppuD2) (hline : r.ppu.ly.toNat < cfg.ppuVisibleLines)
    (hdot : r.ppu.dot = cfg.ppuD1) : r.visibleEntries cfg = r.enterTransfer := by
  rw [PpuRun.visibleEntries, if_pos hline, if_pos hdot, if_neg (by omega)]

theorem PpuRun.visibleEntries_hblank (hD2 : 0 < cfg.ppuD2) (hline : r.ppu.ly.toNat < cfg.ppuVisibleLines)
    (hdot : r.ppu.dot = cfg.ppuD1 + cfg.ppuD2) : r.visibleEntries cfg = r.enterHblank := by
  have hnot : ¬r.ppu.dot = cfg.ppuD1 := by omega
  rw [PpuRun.visibleEntries, if_pos hline, if_neg hnot, if_pos hdot]

theorem PpuRun.visibleEntries_none (htransfer : ¬(r.ppu.ly.toNat < cfg.ppuVisibleLines ∧ r.ppu.dot = cfg.ppuD1))
    (hhblank : ¬(r.ppu.ly.toNat < cfg.ppuVisibleLines ∧ r.ppu.dot = cfg.ppuD1 + cfg.ppuD2)) :
    r.visibleEntries cfg = r := by
  by_cases hline : r.ppu.ly.toNat < cfg.ppuVisibleLines
  · rw [PpuRun.visibleEntries, if_pos hline, if_neg (not_and.mp htransfer hline),
      if_neg (not_and.mp hhblank hline)]
  · exact if_neg hline

theorem PpuRun.lastLine_compare (h : r.ppu.ly.toNat = cfg.ppuTotalLines - 1 ∧ r.ppu.dot = 4) :
    r.lastLine cfg = r.lineCompare 0 := if_pos h

theorem PpuRun.lastLine_none (h : ¬(r.ppu.ly.toNat = cfg.ppuTotalLines - 1 ∧ r.ppu.dot = 4)) :
    r.lastLine cfg = r := if_neg h

/-- The highest line is not a visible one. -/
theorem PpuRun.lastLine_visible (r : PpuRun) (hlines : cfg.ppuVisibleLines < cfg.ppuTotalLines)
    (hline : r.ppu.ly.toNat < cfg.ppuVisibleLines) : r.lastLine cfg = r :=
  PpuRun.lastLine_none (by omega)

theorem PpuRun.endLine_none (r : PpuRun) (h : r.ppu.dot ≠ cfg.ppuLineDots) : r.endLine cfg oam = r := if_neg h

/-- What happens at the counted dot `q`: the end of the line, one of the two entries of a visible line, the compare of
the highest line, or nothing; no two at once. -/
theorem PpuRun.entries_eq (hwf : timingWf cfg = true) (q : PpuRun) :
    ((q.visibleEntries cfg).lastLine cfg).endLine cfg oam =
      if q.ppu.dot = cfg.ppuLineDots then
        { q with ppu := { q.ppu with
          dot := 0
          ly := BitVec.ofNat 8 ((q.ppu.ly.toNat + 1) % cfg.ppuTotalLines) } }.startLine cfg oam
      else if q.ppu.ly.toNat < cfg.ppuVisibleLines ∧ q.ppu.dot = cfg.ppuD1 then q.enterTransfer
      else if q.ppu.ly.toNat < cfg.ppuVisibleLines ∧ q.ppu.dot = cfg.ppuD1 + cfg.ppuD2 then q.enterHblank
      else if q.ppu.ly.toNat = cfg.ppuTotalLines - 1 ∧ q.ppu.dot = 4 then q.lineCompare 0
      else q := by
  obtain ⟨-, hD2, hD, h4, -, hlines, -⟩ := timingWf_iff.mp hwf
  split_ifs with hend htransfer hhblank hlast
  · rw [visibleEntries_none (by omega) (by omega), lastLine_none (by omega), endLine, if_pos hend]
  · obtain ⟨hline, hdot⟩ := htransfer
    rw [visibleEntries_transfer hD2 hline hdot, lastLine_visible q.enterTransfer hlines hline,
      endLine_none q.enterTransfer hend]
  · obtain ⟨hline, hdot⟩ := hhblank
    rw [visibleEntries_hblank hD2 hline hdot, lastLine_visible q.enterHblank hlines hline,
      endLine_none q.enterHblank hend]
  · rw [visibleEntries_none htransfer hhblank, lastLine_compare hlast, endLine_none (q.lineCompare 0) hend]
  · rw [visibleEntries_none htransfer hhblank, lastLine_none hlast, endLine_none q hend]

end dot

/-- The start of a line compares on each line but line 0, and then enters `search` or `vblank` (R386). -/
theorem PpuRun.startLine_eq (cfg : Config) (r : PpuRun) (oam : Memory) :
    let c := if r.ppu.ly = 0 then r else r.lineCompare r.ppu.ly
    r.startLine cfg oam =
      if r.ppu.ly.toNat < cfg.ppuVisibleLines then c.enterSearch oam
      else if r.ppu.ly.toNat = cfg.ppuVisibleLines then c.enterVblank
      else c := by
  simp only [PpuRun.startLine, ite_not]

/-! ## LY and LCDC (R381, R394, R397, R398, R405) -/

theorem memRead_ly (s : State) : memRead s 0xFF44 = s.ppu.readLy s.cfg := memRead_offset 0x44 rfl (by decide)

theorem Ppu.readLy_eq (cfg : Config) (p : Ppu) : p.readLy cfg =
    if bit p.lcdc 7 = false ∨ (p.ly.toNat = cfg.ppuTotalLines - 1 ∧ 4 ≤ p.dot) then 0 else p.ly := by
  rw [Ppu.readLy]
  cases bit p.lcdc 7 <;> simp

theorem ppuRun_enabled {s : State} (h : bit s.ppu.lcdc 7 = true) : ppuRun s =
    PpuRun.dots s.cfg s.store.vram s.store.oam (periodsPerTick s.cfg s.cpu) (PpuRun.of s.ppu) := if_pos h

theorem ppuRun_disabled {s : State} (h : bit s.ppu.lcdc 7 = false) : ppuRun s = PpuRun.of s.ppu := by
  rw [ppuRun, h]
  rfl

/-- A run that asks for nothing changes nothing. -/
theorem applyPpu_of (s : State) : applyPpu s (PpuRun.of s.ppu) = s := rfl

theorem memWrite_lcdc (s : State) (v : Byte) : memWrite s 0xFF40 v = writeLcdc s v :=
  memWrite_offset 0x40 rfl (by decide)

theorem writeLcdc_disable {s : State} {v : Byte} (hon : bit s.ppu.lcdc 7 = true) (hv : bit v 7 = false) :
    writeLcdc s v = { s with ppu := { s.ppu with lcdc := v }.disable s.cfg } := by
  simp [writeLcdc, hon, hv]

theorem writeLcdc_enable {s : State} {v : Byte} (hoff : bit s.ppu.lcdc 7 = false) (hv : bit v 7 = true) :
    writeLcdc s v =
      applyPpu s ((PpuRun.of { s.ppu with lcdc := v }).startLine s.cfg s.store.oam) := by
  simp [writeLcdc, hoff, hv]

/-- Line 0 of a frame starts with `search` and no compare (R386). -/
theorem PpuRun.startLine_zero {cfg : Config} {r : PpuRun} (oam : Memory) (hwf : timingWf cfg = true)
    (hly : r.ppu.ly = 0) : r.startLine cfg oam = r.enterSearch oam := by
  obtain ⟨-, -, -, -, hvisible, -, -⟩ := timingWf_iff.mp hwf
  rw [PpuRun.startLine_eq, hly]
  exact if_pos hvisible

/-- Settles O50: the entries are the model's own; at a dot at most one of them happens, and the end of a line, which is
none of a visible line's entries, starts the next. -/
theorem modeEntries : Obligations.ModeEntries := by
  intro s r vram oam v cfg h covers line dot q line' z c
  refine ⟨r.enterSearch_eq oam, rfl, rfl, rfl, r.lineCompare_eq v, fun hwf _ => ?dot, fun hon => ?tick,
    applyPpu_eq s r, (memRead_ly s).trans (s.ppu.readLy_eq s.cfg)⟩
  case dot =>
    rw [PpuRun.dot_eq_advanced, PpuRun.entries_eq hwf, PpuRun.advanced_ly, PpuRun.startLine_eq]
    rfl
  case tick => exact congrArg (applyPpu s) (ppuRun_enabled hon)

/-- Settles O49: disabling re-enters `search` by its own assignment, a disabled tick runs no dot, and enabling is the
start of line 0. -/
theorem pipelineEnable : Obligations.PipelineEnable := by
  intro s v
  refine ⟨fun hon hv => ?disable, fun hoff => ?tick, ?enable⟩
  case disable => exact (memWrite_lcdc s v).trans (writeLcdc_disable hon hv)
  case tick => rw [ppuStep, ppuRun_disabled hoff, applyPpu_of]
  case enable =>
    intro hwf hoff hly hv t
    have ht : t = applyPpu s ((PpuRun.of { s.ppu with lcdc := v }).enterSearch s.store.oam) := by
      rw [← PpuRun.startLine_zero s.store.oam hwf hly, ← writeLcdc_enable hoff hv]
      exact memWrite_lcdc s v
    rw [ht]
    exact ⟨rfl, rfl, hly, if_pos hly, rfl, apply_ite Irq.flags _ _ _⟩

end Sys2Proof.Machine

/-! # The decoder, the encoder and the opcode fields (30_encoding.md R120 to R139) -/

namespace Sys2Proof.Machine

/-! ## The two tables as grids of sixteen rows (R132) -/

/-- The rows of the first table. -/
def firstRows (n : Byte) (nn : Word) : List (List Instr) :=
  [firstRow0 n nn, firstRow1 n nn, firstRow2 n nn, firstRow3 n nn,
    firstRow4 n nn, firstRow5 n nn, firstRow6 n nn, firstRow7 n nn,
    firstRow8 n nn, firstRow9 n nn, firstRowA n nn, firstRowB n nn,
    firstRowC n nn, firstRowD n nn, firstRowE n nn, firstRowF n nn]

/-- The rows of the second table. -/
def secondRows : List (List Instr) :=
  [secondRow0, secondRow1, secondRow2, secondRow3, secondRow4, secondRow5, secondRow6, secondRow7,
    secondRow8, secondRow9, secondRowA, secondRowB, secondRowC, secondRowD, secondRowE, secondRowF]

/-- The entry of a grid at an opcode: its high digit names the row. -/
def gridEntry (rows : List (List Instr)) (op : Byte) (other : Instr) : Instr :=
  (rows.getD (op.toNat / 16) []).getD (op.toNat % 16) other

/-- A list of rows of one length, laid end to end, is read by quotient and remainder. -/
theorem getD_flatten {α : Type} {rows : List (List α)} {w : Nat} (hw : 0 < w)
    (h : ∀ l ∈ rows, l.length = w) (k : Nat) (d : α) :
    rows.flatten.getD k d = (rows.getD (k / w) []).getD (k % w) d := by
  induction rows generalizing k with
  | nil => simp
  | cons l rows ih =>
    have hl := h l List.mem_cons_self
    rw [List.flatten_cons]
    by_cases hk : k < w
    · rw [List.getD_append _ _ _ _ (by omega), Nat.div_eq_of_lt hk, Nat.mod_eq_of_lt hk, List.getD_cons_zero]
    · obtain ⟨j, rfl⟩ := Nat.exists_eq_add_of_le (Nat.le_of_not_lt hk)
      rw [List.getD_append_right _ _ _ _ (by omega), hl, Nat.add_sub_cancel_left,
        ih fun l' hl' => h l' (List.mem_cons_of_mem l hl'), Nat.add_div_left j hw, Nat.add_mod_left,
        List.getD_cons_succ]

theorem firstTable_eq_flatten (n : Byte) (nn : Word) : firstTable n nn = (firstRows n nn).flatten := by
  simp only [firstTable, firstRows, List.flatten_cons, List.flatten_nil, List.append_assoc, List.append_nil]

theorem secondTable_eq_flatten : secondTable = secondRows.flatten := by
  simp only [secondTable, secondRows, List.flatten_cons, List.flatten_nil, List.append_assoc, List.append_nil]

theorem length_of_mem_firstRows (n : Byte) (nn : Word) : ∀ l ∈ firstRows n nn, l.length = 16 :=
  List.forall_iff_forall_mem.mp ⟨rfl, rfl, rfl, rfl, rfl, rfl, rfl, rfl, rfl, rfl, rfl, rfl, rfl, rfl, rfl, rfl⟩

theorem length_of_mem_secondRows : ∀ l ∈ secondRows, l.length = 16 := by decide

theorem decodeFirst_eq_gridEntry (op b1 b2 : Byte) :
    decodeFirst op b1 b2 = gridEntry (firstRows b1 (join b2 b1)) op (.undefined op) := by
  rw [decodeFirst, firstTable_eq_flatten, getD_flatten (by decide) (length_of_mem_firstRows _ _)]
  rfl

theorem decodeSecond_eq_gridEntry (op : Byte) : decodeSecond op = gridEntry secondRows op .prefix_CB := by
  rw [decodeSecond, secondTable_eq_flatten, getD_flatten (by decide) length_of_mem_secondRows]
  rfl

/-! ## What an entry encodes to (R120, R122) -/

/-- The bytes of a first-table opcode with the byte `n` and the word `nn` behind it, by its format. -/
def formatBytes (op : Byte) (n : Byte) (nn : Word) : List Byte :=
  match formatOf op with
  | .op | .pre | .illegal => [op]
  | .opD8 | .opE8 => [op, n]
  | .opPad => [op, 0]
  | .opD16 => [op, lowByte nn, highByte nn]

/-- The opcodes of row `r`. -/
def rowOpcodes (r : Nat) : List Byte := (List.range' (16 * r) 16).map (BitVec.ofNat 8)

/-- Every entry of the first grid encodes to its own opcode with its operands. -/
theorem map_encode_firstRows (n : Byte) (nn : Word) :
    (firstRows n nn).map (List.map encode) =
      (List.range 16).map fun r => (rowOpcodes r).map fun op => formatBytes op n nn := rfl

/-- Every entry of the second grid encodes to 0xCB and its own opcode. -/
theorem map_encode_secondRows :
    secondRows.map (List.map encode) = (List.range 16).map fun r => (rowOpcodes r).map fun op => [0xCB, op] := rfl

/-- What holds of a grid row by row holds of each of its entries. -/
theorem apply_gridEntry {α : Type} {g : Instr → α} {rows : List (List Instr)} (f : Byte → α)
    (h : rows.map (List.map g) = (List.range 16).map fun r => (rowOpcodes r).map f)
    (op : Byte) (other : Instr) : g (gridEntry rows op other) = f op := by
  have hr : op.toNat / 16 < 16 := by omega
  have hc : op.toNat % 16 < 16 := Nat.mod_lt _ (by decide)
  have hop : BitVec.ofNat 8 (16 * (op.toNat / 16) + op.toNat % 16) = op := by
    rw [Nat.div_add_mod, BitVec.ofNat_toNat, BitVec.setWidth_eq]
  have hrow : (rows[op.toNat / 16]?).map (List.map g) = some ((rowOpcodes (op.toNat / 16)).map f) := by
    rw [← List.getElem?_map, h, List.getElem?_map, List.getElem?_range hr]
    rfl
  obtain ⟨row, hget, henc⟩ := Option.map_eq_some_iff.mp hrow
  have hcell : (row[op.toNat % 16]?).map g = some (f op) := by
    rw [← List.getElem?_map, henc, List.getElem?_map, rowOpcodes, List.getElem?_map, List.getElem?_range' hc]
    simp only [Option.map_some, Nat.one_mul, hop]
  obtain ⟨i, hi, hfi⟩ := Option.map_eq_some_iff.mp hcell
  rw [gridEntry, List.getD_eq_getElem?_getD, List.getD_eq_getElem?_getD, hget, Option.getD_some, hi]
  exact hfi

theorem encode_decodeFirst (op b1 b2 : Byte) : encode (decodeFirst op b1 b2) = formatBytes op b1 (join b2 b1) := by
  rw [decodeFirst_eq_gridEntry]
  exact apply_gridEntry (fun op => formatBytes op b1 (join b2 b1)) (map_encode_firstRows _ _) op _

theorem encode_decodeSecond (op : Byte) : encode (decodeSecond op) = [0xCB, op] := by
  rw [decodeSecond_eq_gridEntry]
  exact apply_gridEntry (fun op => [0xCB, op]) map_encode_secondRows op _

/-! ## The form of an entry (R121, R127 to R131) -/

theorem map_form_firstRows (n : Byte) (nn : Word) :
    (firstRows n nn).map (List.map Instr.form) = (List.range 16).map fun r => (rowOpcodes r).map formFirst := rfl

theorem map_form_secondRows :
    secondRows.map (List.map Instr.form) = (List.range 16).map fun r => (rowOpcodes r).map formSecond := rfl

/-- The tables agree with the opcode fields. -/
theorem form_decodeFirst (op b1 b2 : Byte) : (decodeFirst op b1 b2).form = formFirst op := by
  rw [decodeFirst_eq_gridEntry]
  exact apply_gridEntry formFirst (map_form_firstRows _ _) op _

theorem form_decodeSecond (op : Byte) : (decodeSecond op).form = formSecond op := by
  rw [decodeSecond_eq_gridEntry]
  exact apply_gridEntry formSecond map_form_secondRows op _

/-! ## The formats of the opcode bytes (R120) -/

/-- Only 0xCB has the format of a second fetch, only `STOP` has a pad byte. -/
theorem formatOf_eq_pre_iff (op : Byte) : formatOf op = .pre ↔ op = 0xCB := by revert op; decide +kernel

theorem formatOf_eq_opPad_iff (op : Byte) : formatOf op = .opPad ↔ op = 0x10 := by revert op; decide +kernel


/-- The number of immediate bytes that an instruction of a format has. -/
def formatImmediates (f : Format) : Nat :=
  match f with
  | .op | .opPad | .pre | .illegal => 0
  | .opD8 | .opE8 => 1
  | .opD16 => 2

/-- The format table and the opcode fields agree on the immediates. -/
theorem length_formImmediates_formFirst (op : Byte) :
    (formImmediates (formFirst op)).length = formatImmediates (formatOf op) := by revert op; decide +kernel

/-- The eleven bytes to which the fields give no sequence (R133). -/
theorem formFirst_eq_undefined_iff (op : Byte) : formFirst op = .undefined ↔ op ∈ undefinedBytes := by
  revert op; decide +kernel

theorem formFirst_eq_prefixCb_iff (op : Byte) : formFirst op = .prefixCb ↔ op = 0xCB := by
  revert op; decide +kernel

theorem formFirst_eq_stop_iff (op : Byte) : formFirst op = .stop ↔ op = 0x10 := by revert op; decide +kernel

theorem formSecond_ne (op : Byte) : formSecond op ≠ .prefixCb ∧ formSecond op ≠ .undefined ∧ formSecond op ≠ .stop := by
  revert op; decide +kernel

/-- A first-table entry without a sequence is the undefined opcode with its own byte. -/
theorem decodeFirst_eq_undefined {op b1 b2 other : Byte} (h : decodeFirst op b1 b2 = .undefined other) :
    other = op ∧ op ∈ undefinedBytes := by
  have hform : formFirst op = .undefined := by rw [← form_decodeFirst op b1 b2, h]; rfl
  have hbytes : [other] = formatBytes op b1 (join b2 b1) := by rw [← encode_decodeFirst, h]; rfl
  refine ⟨?_, (formFirst_eq_undefined_iff op).mp hform⟩
  unfold formatBytes at hbytes
  split at hbytes <;> simp_all

theorem decodeFirst_eq_undefined_iff (op b1 b2 : Byte) :
    decodeFirst op b1 b2 = .undefined op ↔ op ∈ undefinedBytes := by
  refine ⟨fun h => (decodeFirst_eq_undefined h).2, fun h => ?_⟩
  have hform := (form_decodeFirst op b1 b2).trans ((formFirst_eq_undefined_iff op).mpr h)
  obtain ⟨other, hother⟩ := form_undefined hform
  rw [hother, (decodeFirst_eq_undefined hother).1]

theorem wellFormed_decodeFirst (op b1 b2 : Byte) : (decodeFirst op b1 b2).wellFormed = true := by
  cases h : decodeFirst op b1 b2
  case undefined other =>
    obtain ⟨rfl, hmem⟩ := decodeFirst_eq_undefined h
    exact List.contains_iff_mem.mpr hmem
  all_goals rfl

theorem decodeSecond_ne_undefined (op other : Byte) : decodeSecond op ≠ .undefined other := fun h =>
  (formSecond_ne op).2.1 ((form_decodeSecond op).symm.trans (congrArg Instr.form h))

theorem wellFormed_decodeSecond (op : Byte) : (decodeSecond op).wellFormed = true := by
  cases h : decodeSecond op
  case undefined other => exact absurd h (decodeSecond_ne_undefined op other)
  all_goals rfl

/-! ## Decoding what was encoded, and encoding what was decoded (R120, R135, R139) -/

/-- A function of a word is one of its two bytes. -/
theorem apply_word {α : Type} (f : Word → α) (nn : Word) : f nn = f (join (highByte nn) (lowByte nn)) := by
  rw [join_high_low]

/-- The grid entry that the bytes of an instruction name. -/
def tableEntry (bytes : List Byte) : Instr :=
  match bytes with
  | [] => .prefix_CB
  | [op] => gridEntry (firstRows 0 (join 0 0)) op (.undefined op)
  | [op, b1] =>
    if op = 0xCB then gridEntry secondRows b1 .prefix_CB else gridEntry (firstRows b1 (join 0 b1)) op (.undefined op)
  | op :: b1 :: b2 :: _ => gridEntry (firstRows b1 (join b2 b1)) op (.undefined op)

theorem tableEntry_undefined {op : Byte} (h : op ∈ undefinedBytes) : tableEntry [op] = .undefined op :=
  (decodeFirst_eq_gridEntry op 0 0).symm.trans ((decodeFirst_eq_undefined_iff op 0 0).mpr h)

/-- Every well-formed instruction stands in a table, at the place that its own encoding names. -/
theorem tableEntry_encode {i : Instr} (h : i.wellFormed = true) : tableEntry (encode i) = i := by
  cases i
  case undefined op => exact tableEntry_undefined (List.contains_iff_mem.mp h)
  case ld_BC_nn nn | ld_mnn_SP nn | ld_DE_nn nn | ld_HL_nn nn | ld_SP_nn nn | jp_NZ_nn nn | jp_nn nn |
    call_NZ_nn nn | jp_Z_nn nn | call_Z_nn nn | call_nn nn | jp_NC_nn nn | call_NC_nn nn | jp_C_nn nn |
    call_C_nn nn | ld_mnn_A nn | ld_A_mnn nn =>
    symm
    exact apply_word _ nn
  all_goals rfl

/-- A first-table opcode with its operands decodes to the entry that its own bytes name. -/
theorem decode_formatBytes {op b1 b2 : Byte} (hpre : formatOf op ≠ .pre) (rest : List Byte) :
    let bytes := formatBytes op b1 (join b2 b1)
    decode (bytes ++ rest) = .instr (decodeFirst op (bytes.getD 1 0) (bytes.getD 2 0)) rest := by
  dsimp only
  cases h : formatOf op
  case pre => exact absurd h hpre
  all_goals simp [formatBytes, decode, h]

theorem formatOf_ne_pre_of_decodeFirst {op b1 b2 : Byte} (h : decodeFirst op b1 b2 ≠ .prefix_CB) :
    formatOf op ≠ .pre := fun hpre =>
  h (form_prefix ((form_decodeFirst op b1 b2).trans
    ((formFirst_eq_prefixCb_iff op).mpr ((formatOf_eq_pre_iff op).mp hpre))))

/-- A first-table entry is decoded from its own bytes. -/
theorem decode_encode_first {i : Instr} {op b1 b2 : Byte} (hi : decodeFirst op b1 b2 = i)
    (h1 : (encode i).getD 1 0 = b1) (h2 : (encode i).getD 2 0 = b2) (hp : i ≠ .prefix_CB) (rest : List Byte) :
    decode (encode i ++ rest) = .instr i rest := by
  subst hi
  have h := decode_formatBytes (b1 := b1) (b2 := b2) (formatOf_ne_pre_of_decodeFirst hp) rest
  dsimp only at h
  rwa [← encode_decodeFirst, h1, h2] at h

/-- Settles O1: every instruction stands in a table at the place that its encoding names, and the decoder reads that
place. -/
theorem decodeOfEncode : Obligations.DecodeOfEncode := by
  refine ⟨fun i rest hwf hp => ?_, rfl⟩
  have hentry := tableEntry_encode hwf
  unfold tableEntry at hentry
  split at hentry
  next => exact absurd hentry.symm hp
  next op hbytes =>
    rw [← decodeFirst_eq_gridEntry op 0 0] at hentry
    exact decode_encode_first hentry (by rw [hbytes]; rfl) (by rw [hbytes]; rfl) hp rest
  next op b1 hbytes =>
    split at hentry
    next hop =>
      rw [← decodeSecond_eq_gridEntry] at hentry
      rw [hbytes, hop, ← hentry]
      rfl
    next =>
      rw [← decodeFirst_eq_gridEntry op b1 0] at hentry
      exact decode_encode_first hentry (by rw [hbytes]; rfl) (by rw [hbytes]; rfl) hp rest
  next op b1 b2 more hbytes =>
    rw [← decodeFirst_eq_gridEntry op b1 b2] at hentry
    exact decode_encode_first hentry (by rw [hbytes]; rfl) (by rw [hbytes]; rfl) hp rest

/-- What the decoder reads off the front of a sequence of bytes: an entry of the first table with its operands, `STOP`
with any pad byte, or an entry of the second table. -/
theorem decode_cases {bytes rest : List Byte} {i : Instr} (h : decode bytes = .instr i rest) :
    (∃ op b1 b2, i = decodeFirst op b1 b2 ∧ formatOf op ≠ .opPad ∧ bytes = formatBytes op b1 (join b2 b1) ++ rest)
      ∨ (∃ pad, i = decodeFirst 0x10 pad 0 ∧ bytes = 0x10 :: pad :: rest)
      ∨ (∃ op, i = decodeSecond op ∧ bytes = 0xCB :: op :: rest) := by
  cases bytes with
  | nil => cases h
  | cons op more =>
    unfold decode at h
    dsimp only at h
    split at h <;> cases h
    next hf => exact .inl ⟨op, 0, 0, rfl, by simp [hf], by simp [formatBytes, hf]⟩
    next hf => exact .inl ⟨op, 0, 0, rfl, by simp [hf], by simp [formatBytes, hf]⟩
    next b1 hf => exact .inl ⟨op, b1, 0, rfl, by simp [hf], by simp [formatBytes, hf]⟩
    next b1 hf => exact .inl ⟨op, b1, 0, rfl, by simp [hf], by simp [formatBytes, hf]⟩
    next pad hf =>
      rw [(formatOf_eq_opPad_iff op).mp hf]
      exact .inr (.inl ⟨pad, rfl, rfl⟩)
    next b1 b2 hf => exact .inl ⟨op, b1, b2, rfl, by simp [hf], by simp [formatBytes, hf]⟩
    next op2 hf =>
      rw [(formatOf_eq_pre_iff op).mp hf]
      exact .inr (.inr ⟨op2, rfl, rfl⟩)
    next hf =>
      rw [(formatOf_eq_pre_iff op).mp hf]
      exact .inl ⟨0xCB, 0, 0, rfl, by decide, rfl⟩

/-- `STOP` is the entry at 0x10, whatever follows it (R139). -/
theorem decodeFirst_stop (b1 b2 : Byte) : decodeFirst 0x10 b1 b2 = .stop := by
  rw [decodeFirst_eq_gridEntry]; rfl

theorem formatOf_of_decodeFirst_eq_stop {op b1 b2 : Byte} (h : decodeFirst op b1 b2 = .stop) :
    formatOf op = .opPad := by
  have hform : formFirst op = .stop := by rw [← form_decodeFirst op b1 b2, h]; rfl
  exact (formatOf_eq_opPad_iff op).mpr ((formFirst_eq_stop_iff op).mp hform)

theorem decodeSecond_ne_stop (op : Byte) : decodeSecond op ≠ .stop := fun h =>
  (formSecond_ne op).2.2 ((form_decodeSecond op).symm.trans (congrArg Instr.form h))

/-- Settles O2: what decodes is a table entry, whose encoding is known. -/
theorem encodeOfDecode : Obligations.EncodeOfDecode := by
  intro bytes i rest h
  obtain ⟨op, b1, b2, hi, hpad, hbytes⟩ | ⟨pad, hi, hbytes⟩ | ⟨op, hi, hbytes⟩ := decode_cases h
  · refine ⟨hi ▸ wellFormed_decodeFirst _ _ _, fun _ => by rw [hi, encode_decodeFirst, hbytes], fun hstop => ?_⟩
    exact absurd (formatOf_of_decodeFirst_eq_stop (hi.symm.trans hstop)) hpad
  · have hstop := hi.trans (decodeFirst_stop pad 0)
    exact ⟨hstop ▸ rfl, fun hne => absurd hstop hne, fun _ => ⟨pad, hbytes⟩⟩
  · refine ⟨hi ▸ wellFormed_decodeSecond _, fun _ => by rw [hi, encode_decodeSecond, hbytes]; rfl, fun hstop => ?_⟩
    exact absurd (hi.symm.trans hstop) (decodeSecond_ne_stop op)

/-! ## The sequence of an entry (R121, R127 to R131, R133, R144) -/

/-- The machine with the operand bytes of a first-table opcode in the temp that its immediates go to (R147). -/
def withOperandBytes (op b1 b2 : Byte) (s : State) : State :=
  match (formImmediates (formFirst op)).length with
  | 0 => s
  | 1 => s.withTmp8 b1
  | _ => s.withTmp16 (join b2 b1)

/-- The operands of a first-table entry are the bytes it was decoded from. -/
theorem operands_decodeFirst (op b1 b2 : Byte) (s : State) :
    operands (decodeFirst op b1 b2) s = withOperandBytes op b1 b2 s := by
  rw [operands, withOperandBytes, form_decodeFirst, Instr.imm8, Instr.imm16, encode_decodeFirst,
    length_formImmediates_formFirst]
  unfold formatBytes
  cases formatOf op <;> simp [formatImmediates]

theorem formImmediates_formSecond (op : Byte) : formImmediates (formSecond op) = [] := by
  unfold formSecond formSecondReg formSecondHl
  split <;> split <;> rfl

theorem operands_decodeSecond (op : Byte) (s : State) : operands (decodeSecond op) s = s := by
  rw [operands, form_decodeSecond, formImmediates_formSecond]
  rfl

/-- A second-table entry runs its form's sequence at once. -/
theorem exec_decodeSecond (op : Byte) (s : State) :
    exec (decodeSecond op) s = .next (runSeq (formSeq (formSecond op)) s) := by
  obtain ⟨hp, hu, -⟩ := formSecond_ne op
  rw [← form_decodeSecond] at hp hu
  rw [exec_form _ s hp hu, operands_decodeSecond, form_decodeSecond]

/-- Settles O3: the form of a table entry is the one of the opcode fields, so its meaning runs their sequence; 0xCB
and the undefined bytes are recognised by their forms. -/
theorem tablesAgreeWithFields : Obligations.TablesAgreeWithFields := by
  refine ⟨fun op b1 b2 s hp hu => ?_, exec_decodeSecond, fun op b1 b2 => ⟨?_, ?_⟩⟩
  · rw [← form_decodeFirst op b1 b2] at hp hu
    rw [exec_form _ s hp hu, operands_decodeFirst, form_decodeFirst]
    rfl
  · rw [← form_decodeFirst op b1 b2]
    exact ⟨form_prefix, fun h => by rw [h]; rfl⟩
  · rw [formFirst_eq_undefined_iff, decodeFirst_eq_undefined_iff]

/-- Settles O4: the fields leave eleven bytes without a sequence, and the tables have an undefined entry there alone. -/
theorem undefinedBytes_exact : Obligations.UndefinedBytes :=
  ⟨fun op b1 b2 => decodeFirst_eq_undefined_iff op b1 b2, fun _ _ _ _ h => (decodeFirst_eq_undefined h).1,
    decodeSecond_ne_undefined, fun _ _ => rfl⟩

/-- Settles O5: each word is read in the decoder's tables. -/
theorem decodesSpecWords : Obligations.DecodesSpecWords := by
  refine ⟨?_, ?_, ?_, ?_, ?_, ?_, ?_, ?_, ?_, ?_, ?_, ?_, ?_, ?_⟩ <;> decide +kernel

end Sys2Proof.Machine


/-! # What a step is made of (40_execution_engine.md R140 to R159) -/

namespace Sys2Proof.Machine

/-! ## The elementary events of a run -/

/-- What the processor does to the machine outside its Router writes: it changes the register file, its control state and
the interrupt controller's. The low nibble of `F` stays clear (R13), and the speed bits stay on `DMG` (R20). -/
structure ProcStep (s t : State) : Prop where
  frame : t = { s with regs := t.regs, cpu := t.cpu, irq := t.irq }
  flags : s.regs.f &&& 0x0F = 0 → t.regs.f &&& 0x0F = 0
  speed : s.cfg.rev = .dmg → SameSpeed t.cpu s.cpu

/-- The four kinds of event of which every step is made. -/
inductive Event : State → State → Prop where
  | proc {s t : State} (h : ProcStep s t) : Event s t
  | write (s : State) (a : Word) (v : Byte) : Event s (memWrite s a v)
  | head (s : State) : Event s (tickHead s)
  | tail (s : State) : Event s (endTick s)

/-- A run of events. -/
def Events : State → State → Prop := Relation.ReflTransGen Event

section compose
variable {s t u : State} {x : Regs} {c : Cpu}

theorem Events.refl (s : State) : Events s s := Relation.ReflTransGen.refl

theorem Events.trans (h : Events s t) (h' : Events t u) : Events s u := Relation.ReflTransGen.trans h h'

theorem Events.then (h : Events s t) (h' : Event t u) : Events s u := Relation.ReflTransGen.tail h h'

theorem Events.memWrite (h : Events s t) (a : Word) (v : Byte) : Events s (memWrite t a v) :=
  h.then (.write t a v)

theorem Events.withRegs (h : Events s t) (hx : t.regs.f &&& 0x0F = 0 → x.f &&& 0x0F = 0) :
    Events s (t.withRegs x) := h.then (.proc ⟨rfl, hx, fun _ => ⟨rfl, rfl⟩⟩)

/-- A change of the register file that leaves `F` alone. -/
theorem Events.withRegs_same (h : Events s t) (hx : x.f = t.regs.f) : Events s (t.withRegs x) :=
  h.withRegs fun hf => hx ▸ hf

/-- A change of the register file that writes the four flags. -/
theorem Events.withRegs_flags (h : Events s t) {z n hf cf : Bool} (hx : x.f = flagsByte z n hf cf) :
    Events s (t.withRegs x) := h.withRegs fun _ => hx ▸ flagsByte_low z n hf cf

theorem Events.withCpu (h : Events s t) (hc : t.cfg.rev = .dmg → SameSpeed c t.cpu) : Events s (t.withCpu c) :=
  h.then (.proc ⟨rfl, id, hc⟩)

/-- A change of the control state that leaves the speed bits alone. -/
theorem Events.withCpu_same (h : Events s t) (hs : c.doubleSpeed = t.cpu.doubleSpeed)
    (ha : c.speedArmed = t.cpu.speedArmed) : Events s (t.withCpu c) := h.withCpu fun _ => ⟨hs, ha⟩

theorem Events.withTmp8 (h : Events s t) (v : Byte) : Events s (t.withTmp8 v) := h.withCpu_same rfl rfl

theorem Events.withTmp16 (h : Events s t) (v : Word) : Events s (t.withTmp16 v) := h.withCpu_same rfl rfl

theorem Events.withCpuState (h : Events s t) (c : CpuState) : Events s (t.withCpuState c) := h.withCpu_same rfl rfl

theorem Events.setPc (h : Events s t) (v : Word) : Events s (t.setPc v) := h.withRegs_same rfl

theorem Events.setSp (h : Events s t) (v : Word) : Events s (t.setSp v) := h.withRegs_same rfl

theorem Events.setHl (h : Events s t) (v : Word) : Events s (t.setHl v) := h.withRegs_same rfl

theorem Events.setReg (h : Events s t) (r : Reg8) (v : Byte) : Events s (t.setReg r v) :=
  h.withRegs_same (Regs.set_f _ _ _)

theorem Events.tickHead (h : Events s t) : Events s (tickHead t) := h.then (.head t)

theorem Events.endTick (h : Events s t) : Events s (endTick t) := h.then (.tail t)

theorem Events.awaitCpu (n : Nat) (h : Events s t) : Events s (awaitCpu n t) := by
  induction n generalizing t with
  | zero => exact h
  | succ n ih =>
    rw [Machine.awaitCpu]
    split
    · exact ih h.endTick.tickHead
    · exact h

theorem Events.beginTick (h : Events s t) : Events s (beginTick t) := h.tickHead.awaitCpu _

theorem Events.nextCycle (h : Events s t) : Events s (nextCycle t) := h.endTick.beginTick

end compose

/-! ## The primitives (R147) -/

/-- Every primitive of a sequence is a run of events. -/
def Acts (l : List Micro) : Prop := ∀ m ∈ l, ∀ s, Events s (m.act s)

section acts
variable {l l' : List Micro} {m : Micro}

theorem Acts.nil : Acts [] := fun _ h => nomatch h

theorem Acts.cons (h : ∀ s, Events s (m.act s)) (hl : Acts l) : Acts (m :: l) :=
  List.forall_mem_cons.mpr ⟨h, hl⟩

theorem Acts.one (h : ∀ s, Events s (m.act s)) : Acts [m] := .cons h .nil

/-- A cycle with nothing of the processor's own in it, or only a test. -/
theorem Acts.idle (hl : Acts l) : Acts (Micro.idle :: l) := .cons Events.refl hl

theorem Acts.unless (cc : Cond) (hl : Acts l) : Acts (Micro.unless id cc :: l) := .cons Events.refl hl

theorem Acts.append (h : Acts l) (h' : Acts l') : Acts (l ++ l') := fun m hm s =>
  (List.mem_append.mp hm).elim (fun hm => h m hm s) (fun hm => h' m hm s)

theorem Acts.drop (h : Acts l) (n : Nat) : Acts (l.drop n) := fun m hm => h m (List.mem_of_mem_drop hm)

theorem Acts.runRest (h : Acts l) (s : State) : Events s (runRest l s) := by
  induction l generalizing s with
  | nil => exact .refl s
  | cons m rest ih =>
    obtain ⟨hm, hrest⟩ := List.forall_mem_cons.mp h
    have hfirst : Events s (m.act (nextCycle s)) := (Events.refl s).nextCycle.trans (hm _)
    rw [Machine.runRest]
    split
    · exact hfirst
    · exact hfirst.trans (ih hrest _)

/-- A sequence of such primitives, with the other blocks' cycles between, is a run of events. -/
theorem Acts.runSeq (h : Acts l) (s : State) : Events s (runSeq l s) := by
  cases l with
  | nil => exact .refl s
  | cons m rest =>
    obtain ⟨hm, hrest⟩ := List.forall_mem_cons.mp h
    rw [Machine.runSeq]
    split
    · exact hm s
    · exact (hm s).trans (Acts.runRest hrest _)

end acts

section primitives
variable (s : State)

theorem events_readTemp (a : Word) : Events s (readTemp s a) := (Events.refl s).withTmp8 _

theorem events_loadInto (dst : Reg8) (a : Word) : Events s (loadInto dst a s) := (events_readTemp s a).setReg _ _

theorem events_pushByte (v : Byte) : Events s (pushByte s v) := ((Events.refl s).setSp _).memWrite _ _

theorem events_popLow : Events s (popLow s) := ((Events.refl s).withTmp16 _).setSp _

theorem events_popHigh : Events s (popHigh s) := ((Events.refl s).withTmp16 _).setSp _

theorem events_jumpTemp : Events s (jumpTemp s) := (Events.refl s).setPc _

theorem events_pushAndJump (t : Word) : Events s (pushAndJump s t) := (events_pushByte s _).setPc _

theorem events_setStackPair (p : StackPair) (w : Word) : Events s (s.withRegs (s.regs.setStackPair p w)) := by
  cases p
  case af =>
    refine (Events.refl s).withRegs fun _ => ?_
    show lowByte w &&& 0xF0 &&& 0x0F = 0
    rw [BitVec.and_assoc]
    exact BitVec.and_zero
  all_goals exact (Events.refl s).withRegs_same rfl

theorem events_aluTemp (o : AluOp) : Events s (aluTemp o s) := (Events.refl s).withRegs_flags rfl

theorem events_enterHalt : Events s (enterHalt s) := by
  unfold enterHalt
  split
  · exact (Events.refl s).withCpuState _
  · split
    · exact (Events.refl s).withCpu_same rfl rfl
    · exact (Events.refl s).withCpuState _

/-- `STOP` switches the speed on `CGB` only (R297). -/
theorem events_enterStop : Events s (enterStop s) := by
  unfold enterStop
  dsimp only
  split
  next h =>
    refine ((Events.refl s).setPc _).withCpu fun hdmg => ?_
    rw [State.setPc_cfg] at hdmg
    rw [switchesSpeed, hdmg] at h
    cases h
  next => exact ((Events.refl s).setPc _).withCpuState _

theorem events_irqSelect : Events s (irqSelect s) := (Events.refl s).then (.proc ⟨rfl, id, fun _ => ⟨rfl, rfl⟩⟩)

theorem events_fetchOpcode : Events s (fetchOpcode s) := (Events.refl s).then (.proc ⟨rfl, id, fun _ => ⟨rfl, rfl⟩⟩)

theorem events_fetchPrefixed : Events s (fetchPrefixed s) :=
  (Events.refl s).then (.proc ⟨rfl, id, fun _ => ⟨rfl, rfl⟩⟩)

theorem events_fetchTemp8 : Events s (fetchTemp8 s) := ((Events.refl s).setPc _).withTmp8 _

theorem events_fetchTempLow : Events s (fetchTempLow s) := ((Events.refl s).setPc _).withTmp16 _

theorem events_fetchTempHigh : Events s (fetchTempHigh s) := ((Events.refl s).setPc _).withTmp16 _

theorem events_movePending : Events s (movePending s) := by
  unfold movePending
  split
  · exact (Events.refl s).withCpu_same rfl rfl
  · exact .refl s

theorem events_wake : Events s (wake s) := by
  unfold wake wakeHalted
  split
  · dsimp only
    split
    · exact ((Events.refl s).withCpuState _).withCpu_same rfl rfl
    · exact (Events.refl s).withCpuState _
  · exact (Events.refl s).withCpuState _
  all_goals exact .refl s

end primitives

/-! ## The sequences (R142) -/

theorem acts_callCycles : Acts callCycles :=
  .idle (.cons (fun s => events_pushByte s _) (.one fun s => events_pushAndJump s _))

theorem acts_popPcCycles : Acts popPcCycles := .cons events_popLow (.cons events_popHigh (.one events_jumpTemp))

/-- A write back of a byte computed from `tmp8`, after its read. -/
theorem acts_readModifyWrite {f : State → State} (h : ∀ s, Events s (f s)) :
    Acts [Micro.idle, Micro.of fun s => readTemp s s.regs.hl, Micro.of f] :=
  .idle (.cons (fun s => events_readTemp s _) (.one h))

/-- Every primitive of every form is a run of events. -/
theorem acts_formSeq (f : Form) : Acts (formSeq f) := by
  cases f
  case prefixCb | undefined => exact .nil
  case nop => exact .one Events.refl
  case halt => exact .one events_enterHalt
  case stop => exact .one events_enterStop
  case di | ei => exact .one fun s => (Events.refl s).withCpu_same rfl rfl
  case ldRR | ldRN | resR | setR => exact .one fun s => (Events.refl s).setReg _ _
  case ldRHl | ldABc | ldADe | ldANn | ldhAC | ldhAN => exact .idle (.one fun s => events_loadInto s _ _)
  case ldHlR | ldHlN | ldBcA | ldDeA | ldNnA | ldhCA | ldhNA => exact .idle (.one fun s => (Events.refl s).memWrite _ _)
  case ldAHld | ldAHli => exact .idle (.one fun s => ((events_readTemp s _).setHl _).setReg _ _)
  case ldHldA | ldHliA => exact .idle (.one fun s => ((Events.refl s).memWrite _ _).setHl _)
  case ldRrNn => exact .one fun s => (Events.refl s).withRegs_same (Regs.setPair_f _ _ _)
  case ldNnSp =>
    exact .idle (.cons (fun s => (Events.refl s).memWrite _ _) (.one fun s => (Events.refl s).memWrite _ _))
  case ldSpHl => exact .idle (.one fun s => (Events.refl s).setSp _)
  case push => exact .idle (.idle (.cons (fun s => events_pushByte s _) (.one fun s => events_pushByte s _)))
  case pop =>
    exact .idle (.cons events_popLow (.one fun s => (events_popHigh s).trans (events_setStackPair _ _ _)))
  case aluR | daa | cpl | scf | ccf | rlca | rrca | rla | rra | bitR | incR | decR | rotR =>
    exact .one fun s => (Events.refl s).withRegs_flags rfl
  case aluN => exact .one fun s => events_aluTemp s _
  case aluHl => exact .idle (.one fun s => (events_readTemp s _).trans (events_aluTemp _ _))
  case incHl | decHl | rotHl =>
    exact acts_readModifyWrite fun s => ((Events.refl s).memWrite _ _).withRegs_flags rfl
  case resHl | setHl => exact acts_readModifyWrite fun s => (Events.refl s).memWrite _ _
  case incRr | decRr => exact .idle (.one fun s => (Events.refl s).withRegs_same (Regs.setPair_f _ _ _))
  case addHlRr | ldHlSpE => exact .idle (.one fun s => (Events.refl s).withRegs_flags rfl)
  case addSpE => exact .idle (.idle (.one fun s => (Events.refl s).withRegs_flags rfl))
  case bitHl => exact .idle (.one fun s => (events_readTemp s _).withRegs_flags rfl)
  case jpNn => exact .idle (.one events_jumpTemp)
  case jpCcNn => exact .unless _ (.one events_jumpTemp)
  case jpHl => exact .one fun s => (Events.refl s).setPc _
  case jrE => exact .idle (.one fun s => (Events.refl s).setPc _)
  case jrCcE => exact .unless _ (.one fun s => (Events.refl s).setPc _)
  case callNn => exact .idle acts_callCycles
  case callCcNn => exact .unless _ acts_callCycles
  case ret => exact .idle acts_popPcCycles
  case retCc => exact .idle (.unless _ acts_popPcCycles)
  case reti =>
    exact .idle (.cons events_popLow (.cons events_popHigh (.one fun s => (events_jumpTemp s).withCpu_same rfl rfl)))
  case rst =>
    exact .idle (.idle (.cons (fun s => events_pushByte s _) (.one fun s => events_pushAndJump s _)))

theorem acts_joinFetches {fetches body : List Micro} (hf : Acts fetches) (hb : Acts body) :
    Acts (joinFetches fetches body) := by
  induction fetches with
  | nil => exact hb
  | cons a more ih =>
    obtain ⟨ha, hmore⟩ := List.forall_mem_cons.mp hf
    cases more with
    | cons a' more' => exact .cons ha (ih hmore)
    | nil =>
      cases body with
      | nil => exact .one ha
      | cons b rest =>
        obtain ⟨hb, hrest⟩ := List.forall_mem_cons.mp hb
        exact .cons (fun s => (ha s).trans (hb _)) hrest

/-- A form has no immediate, one byte or one word (R120). -/
theorem formImmediates_cases (f : Form) : formImmediates f = [] ∨ formImmediates f = [Micro.of fetchTemp8]
    ∨ formImmediates f = [Micro.of fetchTempLow, Micro.of fetchTempHigh] := by
  cases f <;> simp [formImmediates]

theorem acts_formImmediates (f : Form) : Acts (formImmediates f) := by
  obtain h | h | h := formImmediates_cases f <;> rw [h]
  · exact .nil
  · exact .one events_fetchTemp8
  · exact .cons events_fetchTempLow (.one events_fetchTempHigh)

theorem acts_formPrimitives (f : Form) : Acts (formPrimitives f) := by
  unfold formPrimitives
  split
  · exact acts_formSeq f
  · exact .idle (acts_joinFetches (acts_formImmediates f) (acts_formSeq f))

theorem acts_irqSeq (n : Nat) : Acts (irqSeq n) := by
  have hidle : Acts (List.replicate (n - 4) Micro.idle) := fun m hm s => by
    rw [List.eq_of_mem_replicate hm]
    exact .refl s
  exact .cons events_irqSelect (hidle.append (.cons (fun s => events_pushByte s _) (.cons (fun s => events_pushByte s _)
    (.one fun s => (events_jumpTemp s).withCpuState _))))

/-! ## The step -/

section step
variable {s t : State} {i : Instr}

theorem events_operands (i : Instr) (s : State) : Events s (operands i s) := by
  unfold operands
  split
  · exact .refl s
  · exact (Events.refl s).withTmp8 _
  · exact (Events.refl s).withTmp16 _

/-- The meaning of an instruction is a run of events. -/
theorem exec_events (h : exec i s = .next t) : Events s t := by
  by_cases hp : i.form = .prefixCb
  · rw [form_prefix hp] at h
    cases h
    exact ((Events.refl s).nextCycle.trans (events_fetchPrefixed _)).trans ((acts_formSeq _).runSeq _)
  by_cases hu : i.form = .undefined
  · obtain ⟨op, rfl⟩ := form_undefined hu
    cases h
    exact (Events.refl s).withCpu_same rfl rfl
  rw [exec_form i s hp hu] at h
  cases h
  exact (events_operands i s).trans ((acts_formSeq _).runSeq _)

theorem events_fetchInstr (s : State) : Events s (fetchInstr s).1 := by
  have hfetch : Events s (fetchOpcode (movePending s)) := (events_movePending s).trans (events_fetchOpcode _)
  unfold fetchInstr fetchRest
  split
  · exact hfetch
  · exact hfetch
  · exact hfetch
  · exact hfetch.nextCycle.trans (events_fetchTemp8 _)
  · exact hfetch.nextCycle.trans (events_fetchTemp8 _)
  · exact (hfetch.nextCycle.trans (events_fetchTempLow _)).nextCycle.trans (events_fetchTempHigh _)
  · exact hfetch.nextCycle.trans (events_fetchPrefixed _)

theorem finishTick_eq_next {r : Answer} (h : finishTick r = .next t) : ∃ u, r = .next u ∧ t = endTick u := by
  cases r <;> cases h
  exact ⟨_, rfl, rfl⟩

theorem runBoundary_events (h : runBoundary s = .next t) : Events s t := by
  unfold runBoundary at h
  split at h
  · cases h
    exact ((acts_irqSeq _).runSeq s).endTick
  · obtain ⟨u, hu, rfl⟩ := finishTick_eq_next h
    exact ((events_fetchInstr s).trans (exec_events hu)).endTick

theorem events_finishSeq (s : State) : Events s (finishSeq s) := by
  unfold finishSeq
  split
  · have hboundary : Events s (s.withCpu { s.cpu with cpuState := .fetchingOpcode, upos := 0 }) :=
      (Events.refl s).withCpu_same rfl rfl
    exact (hboundary.trans (events_fetchPrefixed _)).trans ((acts_formSeq _).runSeq _)
  · exact (((acts_formPrimitives _).drop _).runSeq s).withCpu_same rfl rfl

theorem events_finishEntry (s : State) : Events s (finishEntry s) :=
  (((acts_irqSeq _).drop _).runSeq s).withCpu_same rfl rfl

theorem runCpu_events (h : runCpu s = .next t) : Events s t := by
  have hboundary := fun h => (events_wake s).trans (runBoundary_events (t := t) h)
  unfold runCpu at h
  split at h
  · cases h
    exact (Events.refl s).endTick
  · split at h
    · cases h
      exact (events_finishSeq s).endTick
    · cases h
      exact (events_finishEntry s).endTick
    all_goals exact hboundary h

/-- Every step is a run of the four kinds of event. -/
theorem step_events (h : step s = .next t) : Events s t := by
  unfold step at h
  split at h
  · cases h
  · exact (Events.refl s).beginTick.trans (runCpu_events h)

/-- What every event keeps, every step keeps. -/
theorem step_keeps {P : State → Prop} (hP : ∀ s t, Event s t → P s → P t) (h : step s = .next t) (hs : P s) : P t :=
  Relation.ReflTransGen.head_induction_on (motive := fun s _ => P s → P t) (step_events h) id
    (fun hfirst _ ih hs => ih (hP _ _ hfirst hs)) hs

end step

end Sys2Proof.Machine


/-! # What every step keeps (10_state.md, 20_memory.md, 61_devices_ppu_apu.md) -/

namespace Sys2Proof.Machine

/-! ## What a Router write can do (R63) -/

/-- What the pipeline's schedule and its writes depend on. -/
def Ppu.position (p : Ppu) : Nat × Byte × PpuMode × Nat × List Nat × Byte :=
  (p.dot, p.ly, p.mode, p.lx, p.lineSprites, p.lcdc)

/-- The effects of a Router write, by the block it reaches. -/
inductive WriteEffect (s : State) : State → Prop where
  | store (x : Store) : WriteEffect s { s with store := x }
  | controller (a : Nat) (v : Byte) : WriteEffect s (writeController s a v)
  | clock (k : Nat) (v : Byte) : WriteEffect s { s with cart := s.cart.writeClock k v }
  | low (p : Pad) (q : Irq) (k : Timer) : WriteEffect s { s with pad := p, irq := q, timer := k }
  | apu (off : Nat) (v : Byte) : WriteEffect s (writeApu s off v)
  | dma (v : Byte) (x : Store) : WriteEffect s { s with store := x, dma := { s.dma with oamDmaSrc := v } }
  | lcdc (v : Byte) : WriteEffect s (writeLcdc s v)
  | ppu (p : Ppu) (h : p.position = s.ppu.position) : WriteEffect s { s with ppu := p }
  | boot (v : Byte) : WriteEffect s (writeBoot s v)
  | speed (hrev : s.cfg.rev = .cgb) (b : Bool) : WriteEffect s { s with cpu := { s.cpu with speedArmed := b } }
  | bank (hrev : s.cfg.rev = .cgb) (x : Router) (hx : x.bootMapped = s.router.bootMapped) :
      WriteEffect s { s with router := x }
  | hdma (hrev : s.cfg.rev = .cgb) (d : Dma) : WriteEffect s { s with dma := d }

section write
variable (s : State) (v : Byte)

theorem WriteEffect.none : WriteEffect s s := .store s.store

theorem writeLow_effect (off : Nat) : WriteEffect s (writeLow s off v) := by
  unfold writeLow
  split
  case h_9 => exact .none s
  all_goals exact .low _ _ _

theorem writePpu_effect (off : Nat) : WriteEffect s (writePpu s off v) := by
  unfold writePpu
  split
  case h_1 => exact .lcdc v
  case h_11 => exact .none s
  all_goals exact .ppu _ rfl

/-- A write of LCDC reaches the pipeline and what a run of it asks of the other blocks. -/
theorem writeLcdc_frame : writeLcdc s v =
    { s with ppu := (writeLcdc s v).ppu, irq := (writeLcdc s v).irq, dma := (writeLcdc s v).dma } := by
  unfold writeLcdc
  dsimp only
  split
  · rfl
  · split <;> rfl

theorem writePalette_position (p : Ppu) (off : Nat) : (writePalette p off v).position = p.position := by
  unfold writePalette
  split <;> rfl

theorem writeCgb_effect (hrev : s.cfg.rev = .cgb) (off : Nat) : WriteEffect s (writeCgb s off v) := by
  unfold writeCgb
  split
  · exact .speed hrev _
  · exact .bank hrev _ rfl
  · exact .bank hrev _ rfl
  · split
    · exact .hdma hrev _
    · exact .ppu _ (writePalette_position v _ _)

theorem writeIo_effect (off : Nat) : WriteEffect s (writeIo s off v) := by
  unfold writeIo
  split
  · exact writeLow_effect s v off
  split
  · exact .apu off v
  split
  · rw [writeDma, oamCopy_frame]
    exact .dma v _
  split
  · exact writePpu_effect s v off
  split
  · exact .boot v
  split
  · exact .none s
  next hrev => exact writeCgb_effect s v hrev off

/-- Every Router write has one of these effects. -/
theorem memWrite_effect (a : Word) : WriteEffect s (memWrite s a v) := by
  unfold memWrite writeHandler
  split
  · exact .controller _ v
  · exact .controller _ v
  · split
    · exact .none s
    · exact .store _
  · exact .store _
  · exact .clock _ v
  · exact .store _
  · split
    · exact .none s
    · exact .store _
  · exact .none s
  · exact writeIo_effect s v _
  · exact .store _
  · exact .low _ _ _

end write

/-! ## Storage, flags, images, overlay (R13, R30, R34, R79) -/

section quiet
variable (s : State)

theorem tickHead_regs : (tickHead s).regs = s.regs := congrArg Quiet.regs (tickHead_quiet s)
theorem tickHead_cfg : (tickHead s).cfg = s.cfg := congrArg Quiet.cfg (tickHead_quiet s)
theorem tickHead_router : (tickHead s).router = s.router := congrArg Quiet.router (tickHead_quiet s)
theorem tickHead_rom : (tickHead s).store.rom = s.store.rom := congrArg (fun q => q.store.rom) (tickHead_quiet s)
theorem tickHead_bootRom : (tickHead s).store.bootRom = s.store.bootRom :=
  congrArg (fun q => q.store.bootRom) (tickHead_quiet s)

end quiet

/-- Settles O53: no event breaks the canonical form of a region. -/
theorem stepKeepsMemoryCanonical : Obligations.StepKeepsMemoryCanonical := by
  intro s t hs h
  rw [memWf_iff] at hs ⊢
  refine step_keeps (P := MemWf) (fun s t he hs => ?_) h hs
  cases he with
  | proc h =>
    rw [h.frame]
    exact hs.of_eq rfl rfl rfl rfl rfl
  | write a v => exact memWrite_wf hs a v
  | head => exact tickHead_wf hs
  | tail => exact endTick_wf hs

theorem flagsWf_iff {s : State} : s.flagsWf = true ↔ s.regs.f &&& 0x0F = 0 := by simp [State.flagsWf]

/-- Settles O54: only the processor writes `F`, and it keeps the low nibble clear. -/
theorem stepKeepsFlagsNibble : Obligations.StepKeepsFlagsNibble := by
  intro s t hs h
  rw [flagsWf_iff] at hs ⊢
  refine step_keeps (P := fun s => s.regs.f &&& 0x0F = 0) (fun s t he hs => ?_) h hs
  cases he with
  | proc h => exact h.flags hs
  | write a v => rwa [memWrite_regs]
  | head => rwa [tickHead_regs]
  | tail => exact hs

/-- Settles O55: no event changes an image or a parameter. -/
theorem stepKeepsImages : Obligations.StepKeepsImages := by
  intro s t h
  refine step_keeps (P := fun u => u.store.rom = s.store.rom ∧ u.store.bootRom = s.store.bootRom ∧ u.cfg = s.cfg)
    (fun u w he hu => ?_) h ⟨rfl, rfl, rfl⟩
  cases he with
  | proc h =>
    rw [h.frame]
    exact hu
  | write a v => rwa [memWrite_rom, memWrite_bootRom, memWrite_cfg]
  | head => rwa [tickHead_rom, tickHead_bootRom, tickHead_cfg]
  | tail => exact hu

/-- Settles O43: of all events only a write of BOOT changes `boot_mapped`, and it can only clear it. -/
theorem overlayNeverReturns : Obligations.OverlayNeverReturns := by
  intro s t h hs
  refine step_keeps (P := fun u => u.router.bootMapped = false) (fun u w he hu => ?_) h hs
  cases he with
  | proc h =>
    rw [h.frame]
    exact hu
  | write a v =>
    have heffect := memWrite_effect u v a
    generalize memWrite u a v = w at heffect
    cases heffect
    case boot v =>
      show (u.router.bootMapped && !bit v 0) = false
      rw [hu, Bool.false_and]
    case lcdc v => rwa [writeLcdc_frame]
    case bank hx => exact hx.trans hu
    all_goals exact hu
  | head => rwa [tickHead_router]
  | tail => exact hu


/-! ## Sound (R422 to R424, R431, R434, R435) -/

/-- A channel's length counter has its one form, and the channel is enabled with its DAC on only. -/
structure ChannelWf {w : Nat} (l : Length w) (enabled dac : Bool) : Prop where
  length : l.wf = true
  dac : enabled = true → dac = true

/-- The two invariants of the sound state, channel by channel. -/
structure Apu.Sound (p : Apu) : Prop where
  ch1 : ChannelWf p.ch1.length p.ch1.enabled p.ch1.dac
  ch2 : ChannelWf p.ch2.length p.ch2.enabled p.ch2.dac
  ch3 : ChannelWf p.ch3.length p.ch3.enabled p.ch3.dac
  ch4 : ChannelWf p.ch4.length p.ch4.enabled p.ch4.dac

theorem Apu.sound_iff (p : Apu) : p.Sound ↔ p.lengthsWf = true ∧ p.dacsWf = true := by
  have himp (a b : Bool) : (!a || b) = true ↔ (a = true → b = true) := by cases a <;> simp
  simp only [Apu.lengthsWf, Apu.dacsWf, Bool.and_eq_true, himp]
  constructor
  · rintro ⟨⟨hl1, hd1⟩, ⟨hl2, hd2⟩, ⟨hl3, hd3⟩, ⟨hl4, hd4⟩⟩
    exact ⟨⟨⟨⟨hl1, hl2⟩, hl3⟩, hl4⟩, ⟨⟨⟨hd1, hd2⟩, hd3⟩, hd4⟩⟩
  · rintro ⟨⟨⟨⟨hl1, hl2⟩, hl3⟩, hl4⟩, ⟨⟨⟨hd1, hd2⟩, hd3⟩, hd4⟩⟩
    exact ⟨⟨hl1, hd1⟩, ⟨hl2, hd2⟩, ⟨hl3, hd3⟩, ⟨hl4, hd4⟩⟩

section channel
variable {w : Nat} {l l' : Length w} {en dac b : Bool}

/-- A channel that is not enabled needs no DAC. -/
theorem ChannelWf.disabled (hl : l.wf = true) : ChannelWf l false dac := ⟨hl, fun h => nomatch h⟩

theorem ChannelWf.load (h : ChannelWf l en dac) (n : BitVec w) : ChannelWf (Length.load n) en dac :=
  ⟨Length.wf_load n, h.dac⟩

/-- Disabling on a condition keeps the invariants. -/
theorem ChannelWf.and (h : ChannelWf l en dac) : ChannelWf l (en && b) dac :=
  ⟨h.length, fun he => h.dac (Bool.and_eq_true_iff.mp he).1⟩

/-- A write of the DAC bit disables the channel with its DAC off (R435). -/
theorem ChannelWf.writeDac (h : ChannelWf l en dac) : ChannelWf l (en && b) b :=
  ⟨h.length, fun he => (Bool.and_eq_true_iff.mp he).2⟩

/-- A trigger enables the channel exactly if its DAC is on (R434). -/
theorem ChannelWf.trigger (h : ChannelWf l en dac) : ChannelWf l.trigger dac dac :=
  ⟨Length.wf_trigger l h.length, id⟩

theorem ChannelWf.clock (h : ChannelWf l en dac) : ChannelWf (l.clock b) (en && !l.expires b) dac :=
  ⟨Length.wf_clock l b h.length, h.and.dac⟩

/-- Master disable clears or keeps a length (R439). -/
theorem ChannelWf.wipe (h : ChannelWf l en dac) {keep : Prop} [Decidable keep] {dac' : Bool} :
    ChannelWf (if keep then l else Length.zero) false dac' := by
  refine .disabled ?_
  split
  · exact h.length
  · exact Length.wf_zero

end channel

section units
variable {p : Apu} {v : Byte}

theorem Apu.Sound.sweepCheck (h : p.Sound) : p.sweepCheck.Sound := { h with ch1 := h.ch1.and }

theorem Apu.Sound.clockSweep (h : p.Sound) : p.clockSweep.Sound := by
  unfold Apu.clockSweep
  dsimp only
  split
  · split
    · split
      · exact { h with ch1 := h.ch1.and.and }
      · exact { h with ch1 := h.ch1.and }
    · exact { h with }
  · exact { h with }

theorem Apu.Sound.clockLengths (h : p.Sound) : p.clockLengths.Sound :=
  ⟨h.ch1.clock, h.ch2.clock, h.ch3.clock, h.ch4.clock⟩

theorem Apu.Sound.clockSequencer (h : p.Sound) : p.clockSequencer.Sound := by
  have hstep : Apu.Sound { p with fsStep := p.fsStep + 1 } := { h with }
  unfold Apu.clockSequencer
  dsimp only
  split
  · exact { h with }
  · exact hstep.clockLengths
  · exact hstep.clockLengths.clockSweep
  · exact hstep.clockLengths
  · exact hstep.clockLengths.clockSweep
  · exact hstep

/-- Repetition keeps what one repetition keeps. -/
theorem times_keeps {α : Type} {P : α → Prop} {f : α → α} (hf : ∀ x, P x → P (f x)) (n : Nat) {x : α} (hx : P x) :
    P (times f n x) := by
  induction n generalizing x with
  | zero => exact hx
  | succ n ih => exact ih (hf x hx)

theorem Apu.Sound.stepChannels (h : p.Sound) (n : Nat) : (p.stepChannels n).Sound where
  ch1 := times_keeps (P := fun c : Pulse => ChannelWf c.length c.enabled c.dac)
    (fun c hc => by unfold Pulse.period1; split <;> exact hc) n h.ch1
  ch2 := times_keeps (P := fun c : Pulse => ChannelWf c.length c.enabled c.dac)
    (fun c hc => by unfold Pulse.period1; split <;> exact hc) n h.ch2
  ch3 := times_keeps (P := fun c : Wave => ChannelWf c.length c.enabled c.dac)
    (fun c hc => by unfold Wave.period1; split <;> exact hc) n h.ch3
  ch4 := times_keeps (P := fun c : Noise => ChannelWf c.length c.enabled c.dac)
    (fun c hc => by unfold Noise.period1; split; exact hc; split <;> exact hc) n h.ch4

theorem Apu.Sound.step (h : p.Sound) (period n : Nat) : (p.step period n).Sound := by
  unfold Apu.step Apu.stepSequencer
  dsimp only
  split
  · split
    · exact clockSequencer { h.stepChannels n with }
    · exact { h.stepChannels n with }
  · exact h

theorem Apu.Sound.writeControl1 (h : p.Sound) : (p.writeControl1 v).Sound := by
  unfold Apu.writeControl1 Apu.trigger1
  dsimp only
  split
  · split
    · exact { h with ch1 := h.ch1.trigger }
    · exact { h with ch1 := h.ch1.trigger }
  · exact { h with }

theorem Apu.Sound.writeMaster (h : p.Sound) (cfg : Config) : (p.writeMaster cfg v).Sound := by
  unfold Apu.writeMaster
  split
  · exact ⟨h.ch1.wipe, h.ch2.wipe, h.ch3.wipe, h.ch4.wipe⟩
  · split
    · exact { h with }
    · exact h

theorem Apu.Sound.writeOff (h : p.Sound) (rev : Revision) (off : Nat) : (p.writeOff rev off v).Sound := by
  unfold Apu.writeOff
  split
  · exact h
  split
  · exact { h with ch1 := h.ch1.load _ }
  · exact { h with ch2 := h.ch2.load _ }
  · exact { h with ch3 := h.ch3.load _ }
  · exact { h with ch4 := h.ch4.load _ }
  · exact h

theorem ChannelWf.pulse_writeControl {c : Pulse} (h : ChannelWf c.length c.enabled c.dac) :
    ChannelWf (c.writeControl v).length (c.writeControl v).enabled (c.writeControl v).dac := by
  unfold Pulse.writeControl
  dsimp only
  split
  · exact h.trigger
  · exact h

theorem ChannelWf.wave_writeControl {c : Wave} (h : ChannelWf c.length c.enabled c.dac) :
    ChannelWf (c.writeControl v).length (c.writeControl v).enabled (c.writeControl v).dac := by
  unfold Wave.writeControl
  dsimp only
  split
  · exact h.trigger
  · exact h

theorem ChannelWf.noise_writeControl {c : Noise} (h : ChannelWf c.length c.enabled c.dac) :
    ChannelWf (c.writeControl v).length (c.writeControl v).enabled (c.writeControl v).dac := by
  unfold Noise.writeControl
  dsimp only
  split
  · exact h.trigger
  · exact h

theorem Apu.Sound.writePulse (h : p.Sound) (off : Nat) : (p.writePulse off v).Sound := by
  unfold Apu.writePulse
  split
  · exact { h with ch1 := h.ch1.and }
  · exact { h with ch1 := h.ch1.load _ }
  · exact { h with ch1 := h.ch1.writeDac }
  · exact { h with }
  · exact h.writeControl1
  · exact { h with ch2 := h.ch2.load _ }
  · exact { h with ch2 := h.ch2.writeDac }
  · exact { h with }
  · exact { h with ch2 := h.ch2.pulse_writeControl }
  · exact h

theorem Apu.Sound.writeUpper (h : p.Sound) (off : Nat) : (p.writeUpper off v).Sound := by
  unfold Apu.writeUpper
  split
  · exact { h with ch3 := h.ch3.writeDac }
  · exact { h with ch3 := h.ch3.load _ }
  · exact { h with }
  · exact { h with }
  · exact { h with ch3 := h.ch3.wave_writeControl }
  · exact { h with ch4 := h.ch4.load _ }
  · exact { h with ch4 := h.ch4.writeDac }
  · exact { h with }
  · exact { h with ch4 := h.ch4.noise_writeControl }
  · exact { h with }
  · exact { h with }
  · exact h

theorem Apu.Sound.write (h : p.Sound) (cfg : Config) (off : Nat) : (p.write cfg off v).Sound := by
  unfold Apu.write
  split
  · exact { h with }
  split
  · exact h.writeMaster cfg
  split
  · exact h.writeOff cfg.rev off
  split
  · exact h.writePulse off
  · exact h.writeUpper off

end units

/-- Between two ticks the host reaches its inputs, the input edge, the clock, the frame mark and the audio buffer. -/
theorem hostPhase_frame (s : State) : hostPhase s = { s with
    irq := (hostPhase s).irq
    pad := { s.pad with joyPrev := (hostPhase s).pad.joyPrev }
    ppu := { s.ppu with frameDone := (hostPhase s).ppu.frameDone }
    cart := { s.cart with rtcLive := (hostPhase s).cart.rtcLive, rtcTimestamp := (hostPhase s).cart.rtcTimestamp }
    audio := (hostPhase s).audio
    inputs := (hostPhase s).inputs } := by
  unfold hostPhase
  generalize s.inputs.script = l
  induction l generalizing s with
  | nil => rfl
  | cons p rest ih =>
    obtain ⟨n, a⟩ := p
    cases n with
    | succ n => rfl
    | zero =>
      rw [runScript, ih]
      cases a <;> rfl

/-- The bulk copy engine writes video RAM and its own registers only. -/
theorem copyBytes_frame (n : Nat) (s : State) :
    copyBytes n s = { s with store := (copyBytes n s).store, dma := (copyBytes n s).dma } := by
  induction n generalizing s with
  | zero => rfl
  | succ n ih =>
    rw [copyBytes]
    split
    · rfl
    · exact ih (copyByte s)

/-- The timer and the copy engine reach their own registers, the interrupt flags and storage only. -/
theorem timerDmaStep_frame (s : State) : timerDmaStep s = { s with
    timer := (timerDmaStep s).timer, irq := (timerDmaStep s).irq, store := (timerDmaStep s).store
    dma := (timerDmaStep s).dma } := by
  unfold timerDmaStep dmaStep
  split
  · rfl
  · split
    · rfl
    · rw [copyBytes_frame]
      rfl

/-- Settles O57: the sound state changes in the sound unit's own step and in a write of a sound register. -/
theorem stepKeepsSound : Obligations.StepKeepsSound := by
  intro s t hl hd h
  rw [← Apu.sound_iff]
  refine step_keeps (P := fun s => s.apu.Sound) (fun s t he hs => ?_) h (s.apu.sound_iff.mpr ⟨hl, hd⟩)
  cases he with
  | proc h =>
    rw [h.frame]
    exact hs
  | write a v =>
    have heffect := memWrite_effect s v a
    generalize memWrite s a v = w at heffect
    cases heffect
    case apu off v => exact hs.write s.cfg off
    case lcdc v => rwa [writeLcdc_frame]
    all_goals exact hs
  | head =>
    rw [tickHead, timerDmaStep_frame]
    exact Apu.Sound.step (by rwa [hostPhase_frame]) _ _
  | tail => exact hs


/-! ## The enhanced revision and the bank registers (R20, R31, R97 to R101, R348) -/

/-- On `DMG` what only `CGB` has is at rest. -/
structure AtRest (s : State) : Prop where
  doubleSpeed : s.cpu.doubleSpeed = false
  speedArmed : s.cpu.speedArmed = false
  vramBank : s.router.vramBank = 0
  wramBank : s.router.wramBank = 1
  hdmaActive : s.dma.hdmaActive = false
  hdmaBlockLeft : s.dma.hdmaBlockLeft = 0
  cpuStall : s.dma.cpuStall = false

theorem dmgAtRest_iff (s : State) : s.dmgAtRest = true ↔ (s.cfg.rev = .dmg → AtRest s) := by
  cases hrev : s.cfg.rev
  · simp only [State.dmgAtRest, hrev, Bool.or_eq_true, Bool.and_eq_true, Bool.not_eq_true', beq_iff_eq, and_assoc,
      reduceCtorEq, false_or, true_implies]
    exact ⟨fun ⟨h1, h2, h3, h4, h5, h6, h7⟩ => ⟨h1, h2, h3, h4, h5, h6, h7⟩,
      fun ⟨h1, h2, h3, h4, h5, h6, h7⟩ => ⟨h1, h2, h3, h4, h5, h6, h7⟩⟩
  · simp [State.dmgAtRest, hrev]

section dmg
variable {s t : State} (hdmg : s.cfg.rev = .dmg)
include hdmg

/-- On `DMG` a run of the pipeline starts no copy. -/
theorem applyPpu_dma_dmg (r : PpuRun) : (applyPpu s r).dma = s.dma := by
  simp [applyPpu, hblankCopies, hdmg]

theorem writeLcdc_dma_dmg (v : Byte) : (writeLcdc s v).dma = s.dma := by
  unfold writeLcdc
  dsimp only
  split
  · rfl
  · split
    · exact applyPpu_dma_dmg hdmg _
    · rfl

/-- On `DMG` the head of a tick only frees the processor. -/
theorem tickHead_dma_dmg : (tickHead s).dma = { s.dma with cpuStall := false } := by
  have hrev : (apuStep (hostPhase s)).cfg.rev = .dmg := hdmg ▸ congrArg (fun u => u.cfg.rev) (hostPhase_frame s)
  rw [tickHead, timerDmaStep, hrev]
  exact congrArg (fun u : State => { u.dma with cpuStall := false }) (hostPhase_frame s)

end dmg

theorem Event.keeps_atRest {s t : State} (he : Event s t) (hs : s.cfg.rev = .dmg → AtRest s) (hdmg : t.cfg.rev = .dmg) :
    AtRest t := by
  cases he with
  | proc h =>
    have hrev : s.cfg.rev = .dmg := by rwa [h.frame] at hdmg
    obtain ⟨hspeed, harmed⟩ := h.speed hrev
    have hrest := hs hrev
    rw [h.frame]
    exact { hrest with doubleSpeed := hspeed.trans hrest.doubleSpeed, speedArmed := harmed.trans hrest.speedArmed }
  | write a v =>
    rw [memWrite_cfg] at hdmg
    have hrest := hs hdmg
    have heffect := memWrite_effect s v a
    generalize memWrite s a v = w at heffect
    cases heffect
    case lcdc v =>
      rw [writeLcdc_frame, writeLcdc_dma_dmg hdmg]
      exact { hrest with }
    case speed hcgb _ | bank hcgb _ _ | hdma hcgb _ => exact absurd (hdmg.symm.trans hcgb) (by decide)
    all_goals exact { hrest with }
  | head =>
    rw [tickHead_cfg] at hdmg
    have hrest := hs hdmg
    have hcpu := tickHead_cpu s
    have hrouter := tickHead_router s
    have hdma := tickHead_dma_dmg hdmg
    exact ⟨hcpu ▸ hrest.doubleSpeed, hcpu ▸ hrest.speedArmed, hrouter ▸ hrest.vramBank, hrouter ▸ hrest.wramBank,
      hdma ▸ hrest.hdmaActive, hdma ▸ hrest.hdmaBlockLeft, hdma ▸ rfl⟩
  | tail =>
    have hrest := hs hdmg
    have hdma : (endTick s).dma = s.dma := applyPpu_dma_dmg (s := s) hdmg _
    exact ⟨hrest.doubleSpeed, hrest.speedArmed, hrest.vramBank, hrest.wramBank, hdma ▸ hrest.hdmaActive,
      hdma ▸ hrest.hdmaBlockLeft, hdma ▸ hrest.cpuStall⟩

/-- The bank registers that forbid 0 do not hold it. -/
structure Cart.NonzeroBanks (cfg : Config) (c : Cart) : Prop where
  lo5 : c.lo5 ≠ 0
  mcInner : c.mcInner ≠ 0
  romBank : cfg.family = .wide9 ∨ c.romBank ≠ 0

theorem Cart.banksWf_iff (cfg : Config) (c : Cart) : c.banksWf cfg = true ↔ c.NonzeroBanks cfg := by
  simp only [Cart.banksWf, Bool.and_eq_true, Bool.or_eq_true, beq_iff_eq, bne_iff_ne, and_assoc]
  exact ⟨fun ⟨h1, h2, h3⟩ => ⟨h1, h2, h3⟩, fun ⟨h1, h2, h3⟩ => ⟨h1, h2, h3⟩⟩

theorem noBank0_ne_zero {w : Nat} (hw : (1 : BitVec w) ≠ 0) (v : BitVec w) : noBank0 v ≠ 0 := by
  unfold noBank0
  split
  · exact hw
  · assumption

/-- The controller substitutes bank 1 for 0 wherever its family forbids 0 (R97, R99, R101). -/
theorem Cart.NonzeroBanks.write {cfg : Config} {c : Cart} (h : c.NonzeroBanks cfg) (a : Nat) (v : Byte) :
    (c.write cfg a v).NonzeroBanks cfg := by
  unfold Cart.write Cart.writeBanks
  split
  · split
    · exact h
    all_goals exact { h with }
  · split
    · exact h
    · unfold Cart.writeSimple
      split
      · exact { h with lo5 := noBank0_ne_zero (by decide) _ }
      · split <;> exact { h with }
    · unfold Cart.writeRtc
      split
      · exact { h with romBank := .inr (noBank0_ne_zero (by decide) _) }
      · split <;> exact { h with }
    next hfam =>
      unfold Cart.writeWide9
      split
      · exact { h with romBank := .inl hfam }
      split
      · exact { h with romBank := .inl hfam }
      split <;> exact { h with }
    · unfold Cart.writeMulticart
      split
      · exact { h with mcInner := noBank0_ne_zero (by decide) _ }
      · split <;> exact { h with }

theorem Event.keeps_banks {s t : State} (he : Event s t) (hs : s.cart.NonzeroBanks s.cfg) :
    t.cart.NonzeroBanks t.cfg := by
  cases he with
  | proc h =>
    rw [h.frame]
    exact hs
  | write a v =>
    have heffect := memWrite_effect s v a
    generalize memWrite s a v = w at heffect
    cases heffect
    case controller a v => exact hs.write a v
    case clock => exact { hs with }
    case lcdc v => rwa [writeLcdc_frame]
    all_goals exact hs
  | head =>
    rw [tickHead_cfg, tickHead, timerDmaStep_frame, apuStep, hostPhase_frame]
    exact { hs with }
  | tail => exact hs

/-- Settles O58: on `DMG` no write reaches what only `CGB` has, `STOP` switches no speed and the head of a tick starts no
copy; the controller never stores a forbidden 0. -/
theorem stepKeepsBanks : Obligations.StepKeepsBanks := by
  refine ⟨fun s t hs h => ?_, fun s t hs h => ?_⟩
  · rw [dmgAtRest_iff] at hs ⊢
    exact step_keeps (P := fun s => s.cfg.rev = .dmg → AtRest s) (fun _ _ he => he.keeps_atRest) h hs
  · rw [Cart.banksWf_iff] at hs ⊢
    exact step_keeps (P := fun s => s.cart.NonzeroBanks s.cfg) (fun _ _ he => he.keeps_banks) h hs

end Sys2Proof.Machine


/-! # The schedule of the pixel pipeline (61_devices_ppu_apu.md R380 to R397) -/

namespace Sys2Proof.Machine

/-! ## What the schedule says (R25, R385, R386) -/

/-- The schedule of a pipeline whose parts are named. -/
structure Ppu.OnSchedule (cfg : Config) (p : Ppu) : Prop where
  dot : p.dot < cfg.ppuLineDots
  ly : p.ly.toNat < cfg.ppuTotalLines
  lx : p.lx ≤ 160
  sprites : p.lineSprites.length ≤ 10
  mode : p.mode = modeAt cfg p.ly.toNat p.dot

theorem Ppu.scheduled_iff {cfg : Config} {p : Ppu} : p.scheduled cfg ↔
    p.OnSchedule cfg ∧ (bit p.lcdc 7 = false → p.ly = 0 ∧ (p.dot = 0 ∨ p.dot = cfg.ppuReentryOffset)) := by
  simp only [Ppu.scheduled, Ppu.inRange, Bool.and_eq_true, decide_eq_true_eq, and_assoc]
  exact ⟨fun ⟨h1, h2, h3, h4, h5, h6⟩ => ⟨⟨h1, h2, h3, h4, h5⟩, h6⟩, fun ⟨⟨h1, h2, h3, h4, h5⟩, h6⟩ => ⟨h1, h2, h3, h4, h5, h6⟩⟩

/-- The schedule depends on the position alone. -/
theorem Ppu.scheduled_of_position {cfg : Config} {p q : Ppu} (h : q.position = p.position) (hp : p.scheduled cfg) :
    q.scheduled cfg := by
  simp only [Ppu.position, Prod.mk.injEq] at h
  obtain ⟨hdot, hly, hmode, hlx, hsprites, hlcdc⟩ := h
  unfold Ppu.scheduled Ppu.inRange at hp ⊢
  rwa [hdot, hly, hmode, hlx, hsprites, hlcdc]

section modeAt
variable {cfg : Config} {ly dot : Nat}

theorem modeAt_vblank (h : cfg.ppuVisibleLines ≤ ly) : modeAt cfg ly dot = .vblank := if_pos h

theorem modeAt_search (hly : ly < cfg.ppuVisibleLines) (hdot : dot < cfg.ppuD1) : modeAt cfg ly dot = .search := by
  rw [modeAt, if_neg (by omega), if_pos hdot]

theorem modeAt_transfer (hly : ly < cfg.ppuVisibleLines) (hlo : cfg.ppuD1 ≤ dot) (hhi : dot < cfg.ppuD1 + cfg.ppuD2) :
    modeAt cfg ly dot = .transfer := by
  rw [modeAt, if_neg (by omega), if_neg (by omega), if_pos hhi]

theorem modeAt_hblank (hly : ly < cfg.ppuVisibleLines) (hdot : cfg.ppuD1 + cfg.ppuD2 ≤ dot) :
    modeAt cfg ly dot = .hblank := by
  rw [modeAt, if_neg (by omega), if_neg (by omega), if_neg (by omega)]

/-- Between the two entries of a visible line, and in `vblank`, the mode lasts. -/
theorem modeAt_succ (h1 : ¬(ly < cfg.ppuVisibleLines ∧ dot + 1 = cfg.ppuD1))
    (h2 : ¬(ly < cfg.ppuVisibleLines ∧ dot + 1 = cfg.ppuD1 + cfg.ppuD2)) :
    modeAt cfg ly (dot + 1) = modeAt cfg ly dot := by
  by_cases hly : cfg.ppuVisibleLines ≤ ly
  · rw [modeAt_vblank hly, modeAt_vblank hly]
  by_cases hsearch : dot < cfg.ppuD1
  · rw [modeAt_search (by omega) hsearch, modeAt_search (by omega) (by omega)]
  by_cases htransfer : dot < cfg.ppuD1 + cfg.ppuD2
  · rw [modeAt_transfer (by omega) (by omega) htransfer, modeAt_transfer (by omega) (by omega) (by omega)]
  · rw [modeAt_hblank (by omega) (by omega), modeAt_hblank (by omega) (by omega)]

end modeAt

/-! ## A dot keeps the schedule (R386) -/

section dot
variable {cfg : Config} {oam : Memory} {r : PpuRun}

theorem PpuRun.enterSearch_sprites (r : PpuRun) (oam : Memory) : (r.enterSearch oam).ppu.lineSprites.length ≤ 10 := by
  rw [PpuRun.enterSearch_eq]
  exact List.length_take_le _ _

/-- The start of a line enters the mode of its first dots; a line below the first of `vblank` leaves the mode, which is
already `vblank` (R386, R387, R393). -/
theorem PpuRun.startLine_onSchedule (hdot : r.ppu.dot < cfg.ppuD1) (hline : r.ppu.dot < cfg.ppuLineDots)
    (hly : r.ppu.ly.toNat < cfg.ppuTotalLines) (hlx : r.ppu.lx ≤ 160) (hsprites : r.ppu.lineSprites.length ≤ 10)
    (hmode : cfg.ppuVisibleLines < r.ppu.ly.toNat → r.ppu.mode = .vblank) :
    (r.startLine cfg oam).ppu.OnSchedule cfg := by
  have hc : ∃ c : PpuRun, c.ppu.position = r.ppu.position ∧ r.startLine cfg oam =
      if r.ppu.ly.toNat < cfg.ppuVisibleLines then c.enterSearch oam
      else if r.ppu.ly.toNat = cfg.ppuVisibleLines then c.enterVblank
      else c := by
    refine ⟨_, ?_, PpuRun.startLine_eq cfg r oam⟩
    split <;> rfl
  obtain ⟨c, hpos, heq⟩ := hc
  simp only [Ppu.position, Prod.mk.injEq] at hpos
  obtain ⟨hpdot, hply, hpmode, hplx, hpsprites, -⟩ := hpos
  rw [← hpdot] at hdot hline
  rw [← hply] at hly hmode heq
  rw [← hplx] at hlx
  rw [← hpsprites] at hsprites
  rw [← hpmode] at hmode
  rw [heq]
  split
  next h => exact ⟨hline, hly, hlx, c.enterSearch_sprites oam, (modeAt_search h hdot).symm⟩
  split
  next h => exact ⟨hline, hly, hlx, hsprites, (modeAt_vblank (Nat.le_of_eq h.symm)).symm⟩
  next h h' => exact ⟨hline, hly, hlx, hsprites, (hmode (by omega)).trans (modeAt_vblank (by omega)).symm⟩

theorem Ppu.drawDot_lx {rev : Revision} {vram : Memory} {p : Ppu} (h : p.lx ≤ 160) :
    (p.drawDot rev vram oam).lx ≤ 160 := by
  unfold Ppu.drawDot
  split
  next hdraw => exact hdraw.2
  next => exact h

/-- Drawing a dot changes no mode and no selected sprite. -/
theorem Ppu.drawDot_mode (rev : Revision) (vram oam : Memory) (p : Ppu) : (p.drawDot rev vram oam).mode = p.mode := by
  unfold Ppu.drawDot
  split <;> rfl

theorem Ppu.drawDot_lineSprites (rev : Revision) (vram oam : Memory) (p : Ppu) :
    (p.drawDot rev vram oam).lineSprites = p.lineSprites := by
  unfold Ppu.drawDot
  split <;> rfl

theorem PpuRun.dot_onSchedule (hwf : timingWf cfg = true) (vram oam : Memory) (h : r.ppu.OnSchedule cfg) :
    (r.dot cfg vram oam).ppu.OnSchedule cfg := by
  obtain ⟨hre, hD2, hD, h4, hvisible, hlines, htotal⟩ := timingWf_iff.mp hwf
  have hdot : (r.advanced cfg vram oam).ppu.dot = r.ppu.dot + 1 := rfl
  have hly : (r.advanced cfg vram oam).ppu.ly = r.ppu.ly := r.advanced_ly cfg vram oam
  have hlx : (r.advanced cfg vram oam).ppu.lx ≤ 160 := Ppu.drawDot_lx h.lx
  have hmode : (r.advanced cfg vram oam).ppu.mode = r.ppu.mode := Ppu.drawDot_mode _ _ _ _
  have hsprites : (r.advanced cfg vram oam).ppu.lineSprites.length ≤ 10 :=
    (congrArg List.length (Ppu.drawDot_lineSprites _ _ _ _)).trans_le h.sprites
  have hold := h.mode
  have hlt := h.ly
  have hdots := h.dot
  rw [PpuRun.dot_eq_advanced, PpuRun.entries_eq hwf]
  generalize r.advanced cfg vram oam = q at hdot hly hlx hmode hsprites
  rw [← hly] at hold hlt
  rw [hdot]
  split_ifs with hend htransfer hhblank hlast
  · have hnext : (BitVec.ofNat 8 ((q.ppu.ly.toNat + 1) % cfg.ppuTotalLines)).toNat
        = (q.ppu.ly.toNat + 1) % cfg.ppuTotalLines := by
      have := Nat.mod_lt (q.ppu.ly.toNat + 1) (show 0 < cfg.ppuTotalLines by omega)
      rw [BitVec.toNat_ofNat]
      exact Nat.mod_eq_of_lt (by omega)
    have hrange := Nat.mod_lt (q.ppu.ly.toNat + 1) (show 0 < cfg.ppuTotalLines by omega)
    refine PpuRun.startLine_onSchedule (by show 0 < _; omega) (by show 0 < _; omega)
      (by dsimp only; omega) hlx hsprites fun hbelow => ?_
    dsimp only at hbelow
    rw [hnext] at hbelow
    have hwrap : q.ppu.ly.toNat + 1 < cfg.ppuTotalLines := by
      by_contra hwrap
      rw [show q.ppu.ly.toNat + 1 = cfg.ppuTotalLines by omega, Nat.mod_self] at hbelow
      omega
    rw [Nat.mod_eq_of_lt hwrap] at hbelow
    exact hmode.trans (hold.trans (modeAt_vblank (by omega)))
  · obtain ⟨hline, hat⟩ := htransfer
    exact ⟨by show q.ppu.dot < _; omega, hlt, Nat.zero_le _, hsprites,
      (modeAt_transfer hline (by show _ ≤ q.ppu.dot; omega) (by show q.ppu.dot < _; omega)).symm⟩
  · obtain ⟨hline, hat⟩ := hhblank
    exact ⟨by show q.ppu.dot < _; omega, hlt, hlx, hsprites, (modeAt_hblank hline (by show _ ≤ q.ppu.dot; omega)).symm⟩
  all_goals
    refine ⟨by show q.ppu.dot < _; omega, hlt, hlx, hsprites, ?_⟩
    show q.ppu.mode = modeAt cfg q.ppu.ly.toNat q.ppu.dot
    rw [hmode, hold, hdot, modeAt_succ htransfer hhblank]

end dot

/-! No dot writes LCDC. -/

theorem Ppu.drawDot_lcdc (rev : Revision) (vram oam : Memory) (p : Ppu) : (p.drawDot rev vram oam).lcdc = p.lcdc := by
  unfold Ppu.drawDot
  split <;> rfl

theorem PpuRun.startLine_lcdc (cfg : Config) (r : PpuRun) (oam : Memory) :
    (r.startLine cfg oam).ppu.lcdc = r.ppu.lcdc := by
  rw [PpuRun.startLine_eq]
  split_ifs <;> rfl

theorem PpuRun.dot_lcdc {cfg : Config} (hwf : timingWf cfg = true) (vram oam : Memory) (r : PpuRun) :
    (r.dot cfg vram oam).ppu.lcdc = r.ppu.lcdc := by
  have hadvanced : (r.advanced cfg vram oam).ppu.lcdc = r.ppu.lcdc := Ppu.drawDot_lcdc _ _ _ _
  rw [PpuRun.dot_eq_advanced, PpuRun.entries_eq hwf, ← hadvanced]
  generalize r.advanced cfg vram oam = q
  split_ifs
  · exact PpuRun.startLine_lcdc _ _ _
  all_goals rfl

/-! ## The events (R381, R386, R397, R398) -/

section events
variable {s : State}

theorem PpuRun.dots_scheduled (hwf : timingWf s.cfg = true) (vram oam : Memory) (n : Nat) {r : PpuRun}
    (hon : bit r.ppu.lcdc 7 = true) (h : r.ppu.OnSchedule s.cfg) : (PpuRun.dots s.cfg vram oam n r).ppu.scheduled s.cfg := by
  induction n generalizing r with
  | zero => exact Ppu.scheduled_iff.mpr ⟨h, fun hoff => absurd (hon.symm.trans hoff) (by decide)⟩
  | succ n ih => exact ih (by rwa [PpuRun.dot_lcdc hwf]) (PpuRun.dot_onSchedule hwf vram oam h)

/-- A tick keeps the schedule: it runs dots of an enabled pipeline only. -/
theorem endTick_scheduled (hwf : timingWf s.cfg = true) (h : s.ppu.scheduled s.cfg) :
    (endTick s).ppu.scheduled s.cfg := by
  show (ppuRun s).ppu.scheduled s.cfg
  unfold ppuRun
  split
  next hon => exact PpuRun.dots_scheduled hwf _ _ _ hon (Ppu.scheduled_iff.mp h).1
  next => exact h

/-- Disabling re-enters `search` inside its dots, enabling starts line 0, and any other write of LCDC leaves the position
(R397, R398). -/
theorem writeLcdc_scheduled (hwf : timingWf s.cfg = true) (h : s.ppu.scheduled s.cfg) (v : Byte) :
    (writeLcdc s v).ppu.scheduled s.cfg := by
  obtain ⟨hre, hD2, hD, h4, hvisible, hlines, htotal⟩ := timingWf_iff.mp hwf
  obtain ⟨hsched, hoff⟩ := Ppu.scheduled_iff.mp h
  unfold writeLcdc
  dsimp only
  split
  · refine Ppu.scheduled_iff.mpr ⟨⟨?_, ?_, Nat.zero_le _, hsched.sprites, ?_⟩, fun _ => ⟨rfl, .inr rfl⟩⟩
    · show s.cfg.ppuReentryOffset < _
      omega
    · show 0 < _
      omega
    · exact (modeAt_search hvisible hre).symm
  next hdisable =>
  split
  next henable =>
    obtain ⟨holdOff, hnewOn⟩ := Bool.and_eq_true_iff.mp henable
    obtain ⟨hly, hdot⟩ := hoff (by simpa using holdOff)
    have hlt : s.ppu.dot < s.cfg.ppuD1 := by omega
    have hline0 : s.ppu.ly.toNat = 0 := congrArg BitVec.toNat hly
    have hstart : ((PpuRun.of { s.ppu with lcdc := v }).startLine s.cfg s.store.oam).ppu.lcdc = v :=
      PpuRun.startLine_lcdc _ _ _
    refine Ppu.scheduled_iff.mpr ⟨?_, fun hnew => ?_⟩
    · refine PpuRun.startLine_onSchedule hlt hsched.dot hsched.ly hsched.lx hsched.sprites fun hbelow => ?_
      replace hbelow : s.cfg.ppuVisibleLines < s.ppu.ly.toNat := hbelow
      omega
    · rw [applyPpu, hstart, hnewOn] at hnew
      cases hnew
  next henable =>
    refine Ppu.scheduled_iff.mpr ⟨{ hsched with }, fun hnew => hoff ?_⟩
    replace hnew : bit v 7 = false := hnew
    rw [hnew] at hdisable
    simpa using hdisable

theorem tickHead_position (s : State) : (tickHead s).ppu.position = s.ppu.position := by
  rw [tickHead, timerDmaStep_frame, apuStep, hostPhase_frame]
  rfl

theorem Event.keeps_schedule {t : State} (he : Event s t)
    (h : timingWf s.cfg = true ∧ s.ppu.scheduled s.cfg) : timingWf t.cfg = true ∧ t.ppu.scheduled t.cfg := by
  obtain ⟨hwf, hs⟩ := h
  cases he with
  | proc h =>
    rw [h.frame]
    exact ⟨hwf, hs⟩
  | write a v =>
    rw [memWrite_cfg]
    refine ⟨hwf, ?_⟩
    have heffect := memWrite_effect s v a
    generalize memWrite s a v = w at heffect
    cases heffect
    case lcdc v => exact writeLcdc_scheduled hwf hs v
    case ppu p hp => exact Ppu.scheduled_of_position hp hs
    all_goals exact hs
  | head =>
    rw [tickHead_cfg]
    exact ⟨hwf, Ppu.scheduled_of_position (tickHead_position s) hs⟩
  | tail => exact ⟨hwf, endTick_scheduled hwf hs⟩

end events

/-- Settles O56: of all events only the dots of a tick and a write of LCDC move the pipeline, and both keep the mode the
one of the line and the dot. -/
theorem stepKeepsPpuSchedule : Obligations.StepKeepsPpuSchedule := fun _ _ hwf hs h =>
  (step_keeps (P := fun s => timingWf s.cfg = true ∧ s.ppu.scheduled s.cfg) (fun _ _ he => he.keeps_schedule) h
    ⟨hwf, hs⟩).2

/-! ## Reset (R36, R461, R476) -/

/-- Settles O60: the reset state is evaluated. -/
theorem resetMeetsInvariants : Obligations.ResetMeetsInvariants := by
  refine ⟨by decide, by decide, ?_, by decide, by decide, by decide, by decide, by decide⟩
  exact ⟨by decide, by decide, by decide⟩

section powerOn
variable {cfg : Config} (cart : Cartridge) (save : Persistent) (u : Unspecified)

theorem memRead_p1 (s : State) : memRead s 0xFF00 = readP1 s.pad s.inputs.buttons := memRead_offset 0x00 rfl (by decide)

theorem memRead_nr52 (s : State) : memRead s 0xFF26 = s.apu.readMaster := memRead_offset 0x26 rfl (by decide)

/-- With `BOOT = SKIP` both groups of buttons are selected and none is pressed. -/
theorem memRead_p1_skip (h : cfg.boot = .skip) : memRead (State.initial cfg cart save u) 0xFF00 = 0xCF := by
  rw [memRead_p1]
  simp only [State.initial, Pad.initial, Inputs.initial, h]
  decide

theorem memRead_p1_rom (h : cfg.boot = .rom) : memRead (State.initial cfg cart save u) 0xFF00 = 0xFF := by
  rw [memRead_p1]
  simp only [State.initial, Pad.initial, Inputs.initial, h]
  decide

/-- With `BOOT = SKIP` sound is on and channel 1 alone is enabled. -/
theorem memRead_nr52_skip (h : cfg.boot = .skip) : memRead (State.initial cfg cart save u) 0xFF26 = 0xF1 := by
  rw [memRead_nr52]
  simp only [State.initial, Apu.initial, h, Apu.readMaster, Pulse.zero, Wave.zero, Noise.zero]
  decide

end powerOn

/-- Settles O59: the launch is one record, whose fields branch on `BOOT` and on the revision. -/
theorem powerOnValues : Obligations.PowerOnValues := by
  intro fam cfg cart save u
  refine ⟨rfl, _, rfl, ?skipDmg, ?skipCgb, ?skip, ?rom, rfl, rfl, rfl, rfl, rfl, rfl, rfl, rfl, rfl, rfl, rfl⟩
  case skipDmg =>
    intro hboot hrev
    simp [State.initial, Regs.initial, Timer.initial, Dma.initial, hboot, hrev]
  case skipCgb =>
    intro hboot hrev
    simp [State.initial, Regs.initial, Dma.initial, hboot, hrev]
  case skip =>
    intro hboot
    refine ⟨?_, ?_, ?_, ?_, ?_, memRead_p1_skip cart save u hboot, memRead_nr52_skip cart save u hboot⟩ <;>
      simp [State.initial, Router.initial, Irq.initial, Ppu.initial, Apu.initial, hboot]
  case rom =>
    intro hboot
    have hnibble : u.regs.f &&& 0xF0 &&& 0x0F = 0 := by
      rw [BitVec.and_assoc]
      exact BitVec.and_zero
    refine ⟨?_, ?_, ?_, ?_, ?_, ?_, memRead_p1_rom cart save u hboot⟩
    case refine_2 => simpa [State.initial, Regs.initial, hboot] using hnibble
    all_goals simp [State.initial, Regs.initial, Router.initial, Irq.initial, Ppu.initial, Apu.initial, hboot]

end Sys2Proof.Machine


/-! # The passage of time, as the Router sees it (20_memory.md R61 to R63; 40_execution_engine.md R140) -/

namespace Sys2Proof.Machine

/-! ## What stays between two states -/

/-- Whether no bulk copy is in flight or waits for the next `hblank`. -/
def State.NoCopy (s : State) : Prop := s.cfg.rev = .dmg ∨ (s.dma.hdmaActive = false ∧ s.dma.hdmaBlockLeft = 0)

/-- The controller's state but for the live clock, which the host sets. -/
def Cart.banks (c : Cart) : Cart := { c with rtcLive := Rtc.zero, rtcTimestamp := 0 }

/-- The map and the steady bytes of `s` are those of `t`. Neither the other blocks nor a primitive without a store break
this. -/
structure Kept (s t : State) : Prop where
  cfg : t.cfg = s.cfg
  router : t.router = s.router
  cart : t.cart.banks = s.cart.banks
  store : { t.store with vram := [] } = { s.store with vram := [] }
  ie : t.irq.ie = s.irq.ie
  selAction : t.pad.selAction = s.pad.selAction
  selDirection : t.pad.selDirection = s.pad.selDirection
  copy : s.NoCopy → t.NoCopy ∧ t.store.vram = s.store.vram

section kept
variable {s t u : State} {a : Word}

theorem Kept.refl (s : State) : Kept s s := ⟨rfl, rfl, rfl, rfl, rfl, rfl, rfl, fun h => ⟨h, rfl⟩⟩

theorem Kept.trans (h : Kept s t) (h' : Kept t u) : Kept s u where
  cfg := h'.cfg.trans h.cfg
  router := h'.router.trans h.router
  cart := h'.cart.trans h.cart
  store := h'.store.trans h.store
  ie := h'.ie.trans h.ie
  selAction := h'.selAction.trans h.selAction
  selDirection := h'.selDirection.trans h.selDirection
  copy hs := ⟨(h'.copy (h.copy hs).1).1, (h'.copy (h.copy hs).1).2.trans (h.copy hs).2⟩

/-- A change of the processor's registers and control state. -/
theorem Kept.proc (s : State) (x : Regs) (c : Cpu) : Kept s (s.withProc x c) := { Kept.refl s with }

theorem irq_ie_requestIf (q : Irq) (c : Bool) (k : Nat) : (q.requestIf c k).ie = q.ie := by
  rw [Irq.requestIf_eq]

theorem hostPhase_ie (s : State) : (hostPhase s).irq.ie = s.irq.ie := by
  unfold hostPhase
  generalize s.inputs.script = l
  induction l generalizing s with
  | nil => rfl
  | cons p rest ih =>
    obtain ⟨n, a⟩ := p
    cases n with
    | succ n => rfl
    | zero =>
      rw [runScript, ih]
      cases a
      case setButtons | setIrq3Line => exact irq_ie_requestIf _ _ _
      all_goals rfl

theorem Kept.hostPhase (s : State) : Kept s (hostPhase s) := by
  have hie := hostPhase_ie s
  rw [hostPhase_frame] at hie ⊢
  exact { Kept.refl s with ie := hie }

theorem Kept.apuStep (s : State) : Kept s (apuStep s) := { Kept.refl s with }

theorem Kept.timerStep (s : State) : Kept s (timerStep s) := { Kept.refl s with ie := irq_ie_requestIf _ _ _ }

theorem Kept.releaseCpu (s : State) : Kept s (releaseCpu s) := { Kept.refl s with }

/-- A copy in flight reaches video RAM only. -/
theorem Kept.dmaStep (hcgb : s.cfg.rev = .cgb) : Kept s (dmaStep s) := by
  have hquiet : (Machine.dmaStep s).quiet = s.quiet := by
    unfold Machine.dmaStep
    split
    · rfl
    · exact (copyBytes_quiet _ _).trans rfl
  have hframe : Machine.dmaStep s = { s with store := (Machine.dmaStep s).store, dma := (Machine.dmaStep s).dma } := by
    unfold Machine.dmaStep
    split
    · rfl
    · rw [copyBytes_frame]
  refine ⟨congrArg Quiet.cfg hquiet, congrArg Quiet.router hquiet, ?_, congrArg Quiet.store hquiet, ?_, ?_, ?_, fun hs => ?_⟩
  case refine_5 =>
    obtain ⟨-, hleft⟩ := hs.resolve_left fun hdmg => by rw [hcgb] at hdmg; cases hdmg
    rw [dmaStep_idle hleft]
    exact ⟨hs, rfl⟩
  all_goals rw [hframe]

theorem Kept.timerDmaStep (s : State) : Kept s (timerDmaStep s) := by
  unfold Machine.timerDmaStep
  split
  · exact (Kept.timerStep s).trans (.releaseCpu _)
  next hcgb => exact (Kept.timerStep s).trans (.dmaStep hcgb)

theorem Kept.tickHead (s : State) : Kept s (tickHead s) :=
  ((Kept.hostPhase s).trans (.apuStep _)).trans (.timerDmaStep _)

/-- Without an active copy an entry into `hblank` starts no block. -/
theorem Kept.endTick (s : State) : Kept s (endTick s) := by
  refine { Kept.refl s with ie := ?_, copy := fun hs => ⟨?_, rfl⟩ }
  · exact (irq_ie_requestIf _ _ _).trans (irq_ie_requestIf _ _ _)
  · obtain hdmg | ⟨hactive, hleft⟩ := hs
    · exact .inl hdmg
    · refine .inr ⟨hactive, ?_⟩
      have hnone : hblankCopies s = false := by simp [hblankCopies, hactive]
      show (if (ppuRun s).hblankEntered && hblankCopies s then _ else _) = _
      rw [hnone, Bool.and_false]
      exact hleft

theorem Kept.awaitCpu (n : Nat) (s : State) : Kept s (awaitCpu n s) := by
  induction n generalizing s with
  | zero => exact .refl s
  | succ n ih =>
    rw [Machine.awaitCpu]
    split
    · exact ((Kept.endTick s).trans (.tickHead _)).trans (ih _)
    · exact .refl s

theorem Kept.nextCycle (s : State) : Kept s (nextCycle s) :=
  ((Kept.endTick s).trans (.tickHead _)).trans (.awaitCpu _ _)

theorem Kept.idleCycles (n : Nat) (s : State) : Kept s (idleCycles n s) := by
  induction n generalizing s with
  | zero => exact .refl s
  | succ n ih => exact (Kept.nextCycle s).trans (ih _)

/-! ## The map and the steady bytes -/

theorem handler_congr (hcfg : t.cfg = s.cfg) (hrouter : t.router = s.router) (hcart : t.cart.banks = s.cart.banks)
    (a : Word) : handler t a = handler s a := by
  have hbank0 : t.cart.bank0 s.cfg = s.cart.bank0 s.cfg := (congrArg (Cart.bank0 s.cfg) hcart :)
  have hbankN : t.cart.bankN s.cfg = s.cart.bankN s.cfg := (congrArg (Cart.bankN s.cfg) hcart :)
  have hwindow : t.cart.extWindow s.cfg = s.cart.extWindow s.cfg := (congrArg (Cart.extWindow s.cfg) hcart :)
  unfold handler romHandler highHandler extHandler wramHandler wramBankOf vramBankOf overlayAt
  rw [hcfg, hrouter, hbank0, hbankN, hwindow]

theorem Kept.handler (h : Kept s t) (a : Word) : handler t a = handler s a :=
  handler_congr h.cfg h.router h.cart a

theorem steady_iff {s : State} {a : Word} : steady s a = true ↔
    (∀ off, handler s a ≠ .io off) ∧ ∀ i, handler s a = .vram i → s.NoCopy := by
  unfold steady State.NoCopy
  cases handler s a <;> simp

theorem Kept.steady (h : Kept s t) (hs : steady s a = true) : steady t a = true := by
  obtain ⟨hio, hvram⟩ := steady_iff.mp hs
  exact steady_iff.mpr ⟨fun off => by rw [h.handler]; exact hio off,
    fun i hi => (h.copy (hvram i (by rwa [h.handler] at hi))).1⟩

/-- A steady byte stays. -/
theorem Kept.memRead (h : Kept s t) (hs : Machine.steady s a = true) : memRead t a = memRead s a := by
  obtain ⟨hio, hvram⟩ := steady_iff.mp hs
  rw [Machine.memRead, Machine.memRead, h.handler]
  cases hq : Machine.handler s a
  case io off => exact absurd hq (hio off)
  case vram i => exact congrArg (fun m => Memory.read m i) (h.copy (hvram i hq)).2
  case rtc k => exact (congrArg (fun c : Cart => c.rtcLatched.read k) h.cart :)
  case bootRom i => exact (congrArg (fun x : Store => x.bootRom.read i) h.store :)
  case rom i => exact (congrArg (fun x : Store => x.rom.read i) h.store :)
  case extRam i => exact (congrArg (fun x : Store => x.extRam.read i) h.store :)
  case wram i => exact (congrArg (fun x : Store => x.wram.read i) h.store :)
  case oam i => exact (congrArg (fun x : Store => x.oam.read i) h.store :)
  case hram i => exact (congrArg (fun x : Store => x.hram.read i) h.store :)
  case ie => exact congrArg irqByte h.ie
  case unmapped => rfl

theorem memRead_nextCycle (hs : Machine.steady s a = true) : Machine.memRead (Machine.nextCycle s) a = Machine.memRead s a :=
  (Kept.nextCycle s).memRead hs

end kept

/-! ## A byte of RAM after a store (R62, R63) -/

section ram
variable {s t : State} {a b : Word} {v w : Byte}

theorem handler_isRam_cases (h : (handler s a).isRam = true) :
    (∃ i, handler s a = .wram i) ∨ (∃ i, handler s a = .hram i) ∨ ∃ i, handler s a = .extRam i := by
  cases hq : handler s a <;> rw [hq] at h <;> simp_all [Handler.isRam]

/-- RAM is steady. -/
theorem steady_of_isRam (h : (handler s a).isRam = true) : steady s a = true := by
  refine steady_iff.mpr ⟨fun off ho => ?_, fun i hi => ?_⟩
  · rw [ho] at h; cases h
  · rw [hi] at h; cases h

/-- A store to RAM changes the storage alone. -/
theorem memWrite_isRam (h : (handler s a).isRam = true) (v : Byte) :
    memWrite s a v = { s with store := (memWrite s a v).store } := by
  obtain ⟨i, hi⟩ | ⟨i, hi⟩ | ⟨i, hi⟩ := handler_isRam_cases h
  · rw [memWrite_wram hi]; rfl
  · rw [memWrite_hram hi]; rfl
  · rw [memWrite_extRam hi]; rfl

theorem handler_memWrite_isRam (h : (handler s a).isRam = true) (v : Byte) (b : Word) :
    handler (memWrite s a v) b = handler s b := by
  rw [memWrite_isRam h]
  rfl

/-- A byte written to RAM is the byte read back. -/
theorem memRead_memWrite_same (hm : s.memWf = true) (h : (handler s a).isRam = true) (v : Byte) :
    memRead (memWrite s a v) a = v := by
  have hwf := (memWf_iff s).mp hm
  obtain ⟨i, hi⟩ | ⟨i, hi⟩ | ⟨i, hi⟩ := handler_isRam_cases h
  · exact memRead_write_wram hwf.wram hi
  · exact memRead_write_hram hwf.hram hi
  · rw [memRead, handler_memWrite_isRam h, hi, memWrite_extRam hi]
    exact cellRead_write_same i v hwf.extRam

/-- A store to RAM changes no byte of another handler. -/
theorem memRead_memWrite_other (h : (handler s a).isRam = true) (hb : handler s b ≠ handler s a) (v : Byte) :
    memRead (memWrite s a v) b = memRead s b := by
  rw [memRead, handler_memWrite_isRam h, memRead]
  obtain ⟨i, hi⟩ | ⟨i, hi⟩ | ⟨i, hi⟩ := handler_isRam_cases h
  · rw [memWrite_wram hi]
    cases hq : handler s b
    case wram j => exact cellRead_write_other _ _ fun e => hb (by rw [hq, hi, e])
    all_goals rfl
  · rw [memWrite_hram hi]
    cases hq : handler s b
    case hram j => exact cellRead_write_other _ _ fun e => hb (by rw [hq, hi, e])
    all_goals rfl
  · rw [memWrite_extRam hi]
    cases hq : handler s b
    case extRam j => exact cellRead_write_other _ _ fun e => hb (by rw [hq, hi, e])
    all_goals rfl

/-- Settles O38: a store to RAM is one cell write, and only the handler of that cell reads it. -/
theorem readAfterWrite : Obligations.ReadAfterWrite := fun _ _ v hm h =>
  ⟨memRead_memWrite_same hm h v, fun _ hb => memRead_memWrite_other h hb v⟩

end ram

end Sys2Proof.Machine


/-! # The boundary, interrupt entry, and the system instructions (40_execution_engine.md, 47_system.md, 60_exceptions.md) -/

namespace Sys2Proof.Machine

/-! ## Cycles in which the processor does nothing of its own -/

section idle
variable (n : Nat) (s : State)

theorem idleCycles_quiet : (idleCycles n s).quiet = s.quiet := by
  induction n generalizing s with
  | zero => rfl
  | succ n ih => exact (ih _).trans (nextCycle_quiet s)

@[simp] theorem idleCycles_regs : (idleCycles n s).regs = s.regs := congrArg Quiet.regs (idleCycles_quiet n s)
@[simp] theorem idleCycles_cpu : (idleCycles n s).cpu = s.cpu := congrArg Quiet.cpu (idleCycles_quiet n s)
@[simp] theorem idleCycles_cfg : (idleCycles n s).cfg = s.cfg := congrArg Quiet.cfg (idleCycles_quiet n s)
@[simp] theorem idleCycles_zero : idleCycles 0 s = s := rfl

theorem idleCycles_succ : idleCycles (n + 1) s = nextCycle (idleCycles n s) := by
  induction n generalizing s with
  | zero => rfl
  | succ n ih => exact ih (nextCycle s)

theorem idleCycles_wf {s : State} (h : MemWf s) : MemWf (idleCycles n s) := by
  induction n generalizing s with
  | zero => exact h
  | succ n ih => exact ih (nextCycle_wf h)

end idle

/-! ## Two pushes in consecutive cycles (R14, R80, R193) -/

/-- The machine after two pushes from the stack pointer `sp`: the high byte, and a cycle later the low byte. -/
def pushTwo (s : State) (sp : Word) (hi lo : Byte) : State :=
  memWrite ((nextCycle (memWrite (s.setSp (sp - 1)) (sp - 1) hi)).setSp (sp - 2)) (sp - 2) lo

section push
variable {s t u : State} {hi lo : Byte} {sp : Word}

theorem sub_one_sub_one (sp : Word) : sp - 1#16 - 1#16 = sp - 2#16 := by bv_omega

theorem add_one_add_one (sp : Word) : sp + 1#16 + 1#16 = sp + 2#16 := by bv_omega

theorem pushByte_pushByte (s : State) (hi lo : Byte) :
    pushByte (nextCycle (pushByte s hi)) lo = pushTwo s s.regs.sp hi lo := by
  simp only [pushByte, pushTwo, nextCycle_regs, memWrite_regs, State.setSp_regs, BitVec.ofNat_eq_ofNat,
    sub_one_sub_one]

@[simp] theorem pushTwo_regs (s : State) (sp : Word) (hi lo : Byte) :
    (pushTwo s sp hi lo).regs = { s.regs with sp := sp - 2 } := by
  simp [pushTwo]

/-- Two cells of RAM below the stack pointer hold the two bytes pushed. -/
theorem holdsBelow_pushTwo (hm : MemWf u) (hu : Kept s u) (hs : stackInRam s) (w : Word) :
    holdsBelow (pushTwo u s.regs.sp (highByte w) (lowByte w)) s.regs.sp w
      ∧ ∀ a, handler (pushTwo u s.regs.sp (highByte w) (lowByte w)) a = handler s a := by
  obtain ⟨h1, h2, hne⟩ := hs
  have hmap1 (a : Word) : handler (u.setSp (s.regs.sp - 1)) a = handler s a := hu.handler a
  have hwf1 : MemWf (u.setSp (s.regs.sp - 1)) := hm.of_eq rfl rfl rfl rfl rfl
  have hram1 : (handler (u.setSp (s.regs.sp - 1)) (s.regs.sp - 1)).isRam = true := by rwa [hmap1]
  have hread1 := memRead_memWrite_same ((memWf_iff _).mpr hwf1) hram1 (highByte w)
  have hmap2 (a : Word) := handler_memWrite_isRam hram1 (highByte w) a
  have hwf2 := memWrite_wf hwf1 (s.regs.sp - 1) (highByte w)
  unfold pushTwo
  generalize memWrite (u.setSp (s.regs.sp - 1)) (s.regs.sp - 1) (highByte w) = x at hread1 hmap2 hwf2 ⊢
  have hmap3 (a : Word) : handler ((nextCycle x).setSp (s.regs.sp - 2)) a = handler s a :=
    ((Kept.nextCycle x).handler a).trans ((hmap2 a).trans (hmap1 a))
  have hwf3 : MemWf ((nextCycle x).setSp (s.regs.sp - 2)) := (nextCycle_wf hwf2).of_eq rfl rfl rfl rfl rfl
  have hram3 : (handler ((nextCycle x).setSp (s.regs.sp - 2)) (s.regs.sp - 2)).isRam = true := by rwa [hmap3]
  have hsteady : steady x (s.regs.sp - 1) = true := steady_of_isRam (by rwa [hmap2])
  refine ⟨⟨?_, memRead_memWrite_same ((memWf_iff _).mpr hwf3) hram3 _⟩, fun a => ?_⟩
  · rw [memRead_memWrite_other hram3 (by rwa [hmap3, hmap3]), memRead_setSp, memRead_nextCycle hsteady, hread1]
  · exact (handler_memWrite_isRam hram3 _ a).trans (hmap3 a)

/-- Bytes of RAM below the stack pointer stay. -/
theorem Kept.holdsBelow (h : Kept t u) (hmap : ∀ a, Machine.handler t a = Machine.handler s a) (hs : stackInRam s) {w : Word}
    (ht : Machine.holdsBelow t s.regs.sp w) : Machine.holdsBelow u s.regs.sp w := by
  obtain ⟨h1, h2, -⟩ := hs
  obtain ⟨hhigh, hlow⟩ := ht
  exact ⟨(h.memRead (steady_of_isRam (by rwa [hmap]))).trans hhigh,
    (h.memRead (steady_of_isRam (by rwa [hmap]))).trans hlow⟩

end push

/-! ## The boundary (R145, R154, R159) -/

section boundary
variable {s : State}

/-- At a boundary in `fetching-opcode` there is nothing to wake. -/
theorem runCpu_fetching (h : s.cpu.cpuState = .fetchingOpcode) : runCpu s = runBoundary s := by
  have hidle : idles s = false := by simp only [idles, h]
  rw [runCpu, hidle, wake, h]
  rfl

theorem step_fetching (hfault : s.cpu.cpuFault = false) (h : s.cpu.cpuState = .fetchingOpcode) :
    step s = runBoundary (beginTick s) := by
  rw [step_of_not_fault hfault, runCpu_fetching (by rwa [beginTick_cpu])]

theorem accepts_iff (s : State) : accepts s = true ↔ s.cpu.ime = true ∧ s.irq.ie &&& s.irq.flags ≠ 0 := by
  rw [accepts, Bool.and_eq_true, decide_eq_true_iff]
  rfl

theorem accepts_of_ime_clear (h : s.cpu.ime = false) : accepts s = false := by simp [accepts, h]

/-- Settles O6: no fault, nothing to wake and nothing accepted leave the last branch of the boundary. -/
theorem stepRunsDecodedInstruction : Obligations.StepRunsDecodedInstruction := fun _ hfault hstate hacc =>
  (step_fetching hfault hstate).trans (runBoundary_of_not_accepts hacc)

/-! ## The enable latency (R16, R145, R299) -/

/-- The fetches after the boundary's test leave the interrupt enable. -/
theorem fetchInstr_ime (s : State) : (fetchInstr s).1.cpu.ime = (movePending s).cpu.ime
    ∧ (fetchInstr s).1.cpu.imePending = (movePending s).cpu.imePending := by
  unfold fetchInstr fetchRest
  split <;> simp [fetchOpcode, fetchTemp8, fetchTempLow, fetchTempHigh, fetchPrefixed, fetch8]

theorem movePending_of_pending (h : s.cpu.imePending = true) :
    movePending s = s.withCpu { s.cpu with ime := true, imePending := false } := if_pos h

/-- Settles O10: the boundary's test sees `IME` clear, and sets it before the fetch. -/
theorem enableLatency : Obligations.EnableLatency := by
  intro s hfault hstate hime hpending
  have hacc : accepts (beginTick s) = false := accepts_of_ime_clear (by rwa [beginTick_cpu])
  obtain ⟨h1, h2⟩ := fetchInstr_ime (beginTick s)
  rw [movePending_of_pending (by rwa [beginTick_cpu])] at h1 h2
  exact ⟨(step_fetching hfault hstate).trans (runBoundary_of_not_accepts hacc), h1, h2⟩

/-! ## `halted` (R19, R154, R159, R296) -/

theorem idles_halted (h : s.cpu.cpuState = .halted) : idles s = true ↔ s.irq.ie &&& s.irq.flags = 0 := by
  rw [idles, h]
  exact decide_eq_true_iff

theorem runCpu_halted (h : s.cpu.cpuState = .halted) (hp : s.irq.ie &&& s.irq.flags ≠ 0) :
    runCpu s = runBoundary (wakeHalted s) := by
  have hawake : ¬idles s = true := mt (idles_halted h).mp hp
  rw [runCpu, if_neg hawake, wake, h]

/-- A wake with `IME` set, or with the restricted scope, sets no `halt_bug`. -/
theorem wakeHalted_plain (h : s.cpu.ime = true ∨ s.cfg.haltBugScope = .onlyIfPendingAtHalt) :
    wakeHalted s = s.withCpuState .fetchingOpcode := by
  unfold wakeHalted
  dsimp only
  split
  next hscope =>
    have hime : s.cpu.ime = true := h.resolve_right fun h' => by rw [hscope] at h'; cases h'
    simp [hime, State.withCpuState, State.withCpu]
  next => rfl

theorem wakeHalted_bug (hime : s.cpu.ime = false) (hscope : s.cfg.haltBugScope = .anyWakeWithIme0) :
    wakeHalted s = s.withCpu { s.cpu with cpuState := .fetchingOpcode, haltBug := true } := by
  simp [wakeHalted, hscope, hime, State.withCpuState, State.withCpu]

theorem movePending_frame (s : State) : movePending s = s.withCpu { s.cpu with
    ime := (movePending s).cpu.ime, imePending := (movePending s).cpu.imePending } := by
  unfold movePending
  split <;> rfl

/-- The opcode fetch advances `pc` unless `halt_bug` is set, and clears it (R19, R144). -/
theorem fetchOpcode_movePending (s : State) :
    (fetchOpcode (movePending s)).regs.pc = (if s.cpu.haltBug = true then s.regs.pc else s.regs.pc + 1)
      ∧ (fetchOpcode (movePending s)).cpu.haltBug = false := by
  rw [movePending_frame]
  exact ⟨rfl, rfl⟩

/-- Settles O12: whether the processor idles turns on the pending flags; the wake sets `halt_bug` by `IME` and the scope,
and the boundary of the same cycle accepts by `IME`. -/
theorem haltedProcessor : Obligations.HaltedProcessor := by
  intro s hfault hhalted b w
  have hb : b.cpu.cpuState = .halted := (congrArg Cpu.cpuState (beginTick_cpu s)).trans hhalted
  have hime : b.cpu.ime = s.cpu.ime := congrArg Cpu.ime (beginTick_cpu s)
  have hbug : b.cpu.haltBug = s.cpu.haltBug := congrArg Cpu.haltBug (beginTick_cpu s)
  have hpc : b.regs.pc = s.regs.pc := congrArg Regs.pc (beginTick_regs s)
  have hcfg : b.cfg = s.cfg := beginTick_cfg s
  rw [step_of_not_fault hfault]
  refine ⟨fun hp => runCpu_of_idles ((idles_halted hb).mpr hp), fun hp h1 => ?interrupt, fun hp h0 hscope => ?bug,
    fun hp h0 hscope => ?plain⟩
  case interrupt =>
    have hacc : accepts w = true := (accepts_iff w).mpr ⟨hime.trans h1, hp⟩
    rw [runCpu_halted hb hp, wakeHalted_plain (.inl (hime.trans h1))]
    exact runBoundary_of_accepts hacc
  case bug =>
    intro u
    obtain ⟨hadvance, hclear⟩ := fetchOpcode_movePending u
    refine ⟨?_, hadvance.trans ((if_pos rfl).trans hpc), hclear⟩
    rw [runCpu_halted hb hp, wakeHalted_bug (hime.trans h0) (hcfg ▸ hscope)]
    exact runBoundary_of_not_accepts (accepts_of_ime_clear (s := u) (hime.trans h0))
  case plain =>
    obtain ⟨hadvance, hclear⟩ := fetchOpcode_movePending w
    have hwbug : w.cpu.haltBug = s.cpu.haltBug := hbug
    refine ⟨?_, hwbug, fun hoff => ?_, hclear⟩
    · rw [runCpu_halted hb hp, wakeHalted_plain (.inr (hcfg ▸ hscope))]
      exact runBoundary_of_not_accepts (accepts_of_ime_clear (s := w) (hime.trans h0))
    · rw [hadvance, hwbug, hoff]
      exact congrArg (· + 1) hpc

/-! ## Interrupt entry (R318 to R320) -/

/-- The lowest set bit of a nonzero number is set, and none below it is (R319). -/
theorem lowestBit_spec : ∀ v : BitVec 5, v ≠ 0 → bit v (lowestBit v) = true ∧ ∀ j, j < lowestBit v → bit v j = false := by
  decide

/-- Interrupt entry pushes `pc`, jumps to the vector, and ends at a boundary (R320). -/
theorem takeInterrupt_pushTwo (s : State) :
    let u := nextCycle (idleCycles (s.cfg.irqEntryCycles - 4) (irqSelect s))
    takeInterrupt s = irqJump (nextCycle (pushTwo u s.regs.sp (highByte s.regs.pc) (lowByte s.regs.pc))) := by
  intro u
  have hregs : u.regs = s.regs := (nextCycle_regs _).trans (idleCycles_regs _ _)
  have hpush : pushPcLow (nextCycle (pushPcHigh u)) = pushTwo u u.regs.sp (highByte u.regs.pc) (lowByte u.regs.pc) := by
    have hpc : (nextCycle (pushPcHigh u)).regs.pc = u.regs.pc := by
      rw [nextCycle_regs, pushPcHigh, pushByte, memWrite_regs]
      rfl
    rw [← pushByte_pushByte, pushPcLow, hpc]
    rfl
  rw [takeInterrupt_eq, hpush, hregs]

theorem takeInterrupt_regs (s : State) : (takeInterrupt s).regs
    = { s.regs with pc := vectorOf (lowestBit s.irq.pending), sp := s.regs.sp - 2 } := by
  rw [takeInterrupt_pushTwo]
  simp [irqJump, jumpTemp, pushTwo, irqSelect]

theorem takeInterrupt_ime (s : State) : (takeInterrupt s).cpu.ime = false ∧ (takeInterrupt s).cpu.imePending = false
    ∧ (takeInterrupt s).cpu.cpuState = .fetchingOpcode := by
  rw [takeInterrupt_pushTwo]
  simp [irqJump, jumpTemp, pushTwo, irqSelect]

/-- The return address lies below the stack pointer when the entry ends, if that is RAM (R320). -/
theorem holdsBelow_takeInterrupt (hm : s.memWf = true) (hs : stackInRam s) :
    holdsBelow (takeInterrupt s) s.regs.sp s.regs.pc := by
  have hselect : Kept s (irqSelect s) := { Kept.refl s with }
  have hwf : MemWf (irqSelect s) := ((memWf_iff s).mp hm).of_eq rfl rfl rfl rfl rfl
  have hkept := (hselect.trans (.idleCycles (s.cfg.irqEntryCycles - 4) _)).trans (.nextCycle _)
  obtain ⟨hholds, hmap⟩ := holdsBelow_pushTwo (nextCycle_wf (idleCycles_wf _ hwf)) hkept hs s.regs.pc
  rw [takeInterrupt_pushTwo]
  exact ((Kept.nextCycle _).trans (.proc _ _ _)).holdsBelow hmap hs hholds

/-- Settles O9: the source and its vector are chosen in the first cycle, and the two pushes and the jump are the last
three. -/
theorem interruptEntry : Obligations.InterruptEntry := by
  refine ⟨accepts_iff, lowestBit_spec, fun s hfault hstate hacc => ?_, fun s => ?_⟩
  · exact (step_fetching hfault hstate).trans (runBoundary_of_accepts hacc)
  · intro k t
    obtain ⟨hime, hpending, hstate⟩ := takeInterrupt_ime s
    refine ⟨rfl, fun h4 => ?_, rfl, takeInterrupt_regs s, hime, hpending, hstate, holdsBelow_takeInterrupt⟩
    rw [irqSeq_length]
    omega

/-! ## The system instructions (R295 to R301) -/

theorem exec_halt (s : State) : exec .halt s = .next (enterHalt s) := rfl

theorem exec_stop (s : State) : exec .stop s = .next (enterStop s) := rfl

/-- Settles O11: each of the five is one primitive, in the cycle of the opcode fetch. -/
theorem systemInstructions : Obligations.SystemInstructions := by
  refine fun s => ⟨rfl, rfl, rfl, ?halt, ?stop⟩
  case halt =>
    rw [exec_halt, enterHalt]
    cases hscope : s.cfg.haltBugScope
    case anyWakeWithIme0 => rfl
    case onlyIfPendingAtHalt =>
      have hcond : (!s.cpu.ime && decide (s.irq.pending ≠ 0)) = true
          ↔ s.cpu.ime = false ∧ s.irq.ie &&& s.irq.flags ≠ 0 := by
        rw [Bool.and_eq_true, Bool.not_eq_true', decide_eq_true_iff]
        rfl
      simp only [hcond, true_and]
      rfl
  case stop =>
    rw [exec_stop, enterStop, switchesSpeed]
    cases s.cfg.rev <;> cases s.cpu.speedArmed <;> rfl

/-- Settles O14: an undefined opcode's only effect is `cpu_fault` and `ir`, and a step looks at `cpu_fault` first. -/
theorem undefinedOpcodeStops : Obligations.UndefinedOpcodeStops :=
  ⟨fun _ _ => ⟨_, rfl, rfl, rfl, rfl⟩, fun _ hfault => by rw [step, if_pos hfault]⟩

/-- Settles O16: the meaning of 0xCB is the second fetch and then the sequence of the byte fetched, which is the meaning
of the instruction that the second table names. -/
theorem prefixedInstructions : Obligations.PrefixedInstructions := by
  intro s u op
  have hop : (fetchPrefixed u).cpu.ir = op := congrArg (fun x : Regs => memRead u x.pc) (nextCycle_regs s)
  refine ⟨?_, ?_, hop, rfl, _, rfl⟩
  · rw [exec_decodeSecond, ← hop]
    rfl
  · exact congrArg (fun x : Regs => { x with pc := x.pc + 1 }) (nextCycle_regs s)

end boundary

end Sys2Proof.Machine


/-! # What each form does, in the cycle of its last fetch: loads and control transfer (41_load8.md, 42_load16.md,
46_control_transfer.md) -/

namespace Sys2Proof.Machine

/-! ## Running a form on its operands (R120, R147) -/

section form
variable {i : Instr} {s : State} {f : Form}

theorem exec_of_form (h : i.form = f) (hp : f ≠ .prefixCb) (hu : f ≠ .undefined) :
    exec i s = .next (runSeq (formSeq f) (operands i s)) := by
  rw [exec_form i s (h ▸ hp) (h ▸ hu), h]

theorem operands_of_none (h : i.form = f) (hf : formImmediates f = []) : operands i s = s := by
  rw [operands, h, hf]; rfl

theorem operands_of_byte (h : i.form = f) (hf : formImmediates f = [Micro.of fetchTemp8]) :
    operands i s = s.withTmp8 i.imm8 := by
  rw [operands, h, hf]; rfl

theorem operands_of_word (h : i.form = f) (hf : formImmediates f = [Micro.of fetchTempLow, Micro.of fetchTempHigh]) :
    operands i s = s.withTmp16 i.imm16 := by
  rw [operands, h, hf]; rfl

/-- A form without immediates runs its sequence at once. -/
theorem exec_of_none (h : i.form = f) (hf : formImmediates f = []) (hp : f ≠ .prefixCb) (hu : f ≠ .undefined) :
    exec i s = .next (runSeq (formSeq f) s) := by
  rw [exec_of_form h hp hu, operands_of_none h hf]

/-- The operands go to the temps alone (R18). -/
theorem operands_eq (i : Instr) (s : State) :
    ∃ b w, operands i s = s.withCpu { s.cpu with tmp8 := b, tmp16 := w } := by
  unfold operands
  split
  · exact ⟨s.cpu.tmp8, s.cpu.tmp16, rfl⟩
  · exact ⟨i.imm8, s.cpu.tmp16, rfl⟩
  · exact ⟨s.cpu.tmp8, i.imm16, rfl⟩

@[simp] theorem operands_regs (i : Instr) (s : State) : (operands i s).regs = s.regs := by
  obtain ⟨b, w, h⟩ := operands_eq i s
  rw [h]; rfl

theorem withRegs_of_eq {x : Regs} (h : s.regs = x) : s.withRegs x = s := by rw [← h]; rfl

end form

/-! ## Loads between registers (R170, R171, R190, R192) -/

/-- Settles O17: each is one primitive, the first three in the cycle of the last fetch. -/
theorem loadsBetweenRegisters : Obligations.LoadsBetweenRegisters := by
  refine fun i s => ⟨fun dst src h => ?_, fun dst h => ?_, fun p h => ?_, fun h => ?_⟩
  · exact exec_of_none h rfl nofun nofun
  · rw [exec_of_form h nofun nofun, operands_of_byte h rfl]; rfl
  · rw [exec_of_form h nofun nofun, operands_of_word h rfl]; rfl
  · rw [exec_of_none h rfl nofun nofun]
    simp [formSeq, seqLdSpHl]

/-! ## Loads from memory (R172, R175, R176, R179, R181, R183, R185, R187) -/

/-- Settles O18: each is one read, in the cycle after the last fetch. -/
theorem loadsFromMemory : Obligations.LoadsFromMemory := by
  intro i s a ha u v
  unfold loadAddress at ha
  split at ha
  case h_1 r h | h_4 h | h_5 h | h_7 h =>
    cases ha
    rw [exec_of_form h nofun nofun]
    simp [formSeq, seqLdRHl, seqLdAPair, seqLdhAC, loadInto, readTemp, movedPointer, loadTarget, h, u, v, State.setReg]
  case h_2 h | h_3 h =>
    cases ha
    rw [exec_of_form h nofun nofun]
    simp [formSeq, seqLdAHld, seqLdAHli, readTemp, movedPointer, loadTarget, h, u, v, State.setReg, State.setHl]
  case h_6 h =>
    cases ha
    rw [exec_of_form h nofun nofun]
    simp [formSeq, seqLdANn, loadInto, readTemp, movedPointer, loadTarget, h, u, v, State.setReg,
      operands_of_word h rfl]
  case h_8 h =>
    cases ha
    rw [exec_of_form h nofun nofun]
    simp [formSeq, seqLdhAN, loadInto, readTemp, movedPointer, loadTarget, h, u, v, State.setReg,
      operands_of_byte h rfl]
  case h_9 => cases ha

/-! ## Stores (R173, R174, R177, R178, R180, R182, R184, R186, R188) -/

/-- Settles O19: each is one Router write, in the cycle after the last fetch; the pointer moves with it. -/
theorem storesToMemory : Obligations.StoresToMemory := by
  intro i s a v ha hv
  unfold storedByte at hv
  split at hv
  case h_10 => cases hv
  all_goals
    rename_i h
    cases hv
    simp only [storeAddress, h, Option.some.injEq] at ha
    subst ha
    rw [exec_of_form h nofun nofun]
  case h_1 | h_3 | h_4 | h_6 =>
    simp [formSeq, seqLdHlR, seqLdPairA, seqLdhCA, movedPointer, h, withRegs_of_eq]
  case h_2 | h_7 =>
    simp [formSeq, seqLdHlN, seqLdhNA, movedPointer, h, withRegs_of_eq, operands_of_byte h rfl]
  case h_5 =>
    simp [formSeq, seqLdNnA, movedPointer, h, withRegs_of_eq, operands_of_word h rfl]
  case h_8 | h_9 =>
    simp [formSeq, seqLdHldA, seqLdHliA, State.setHl, movedPointer, h]

/-! ## The stack and two-byte stores (R14, R80, R191, R193, R194) -/

section stack
variable {i : Instr} {s : State}

theorem getStackPair_withSp (x : Regs) (v : Word) (p : StackPair) :
    ({ x with sp := v } : Regs).getStackPair p = x.getStackPair p := by cases p <;> rfl

theorem exec_push {p : StackPair} (h : i.form = .push p) : exec i s = .next (pushTwo (idleCycles 2 s) s.regs.sp
    (highByte (s.regs.getStackPair p)) (lowByte (s.regs.getStackPair p))) := by
  rw [exec_of_none h rfl nofun nofun, ← idleCycles_regs 2 s, ← pushByte_pushByte]
  simp [formSeq, seqPush, pushByte, getStackPair_withSp, idleCycles]

/-- Settles O20: the two writes of a push are `pushTwo`, whose cells stay when they are RAM. -/
theorem twoByteStores : Obligations.TwoByteStores := by
  refine fun i s => ⟨fun p h => ?_, fun h => ?_⟩
  · refine ⟨exec_push h, ?_, fun hm hs => ?_⟩
    · exact (pushTwo_regs _ _ _ _).trans (by rw [idleCycles_regs])
    · exact (holdsBelow_pushTwo (idleCycles_wf 2 ((memWf_iff s).mp hm)) (.idleCycles 2 s) hs _).1
  · intro u w
    rw [exec_of_form h nofun nofun]
    simp [formSeq, seqLdNnSp, operands_of_word h rfl, u, w]

/-- Settles O21: the two reads are `popLow` and `popHigh`, which pass the word in `tmp16`. -/
theorem popPair : Obligations.PopPair := by
  intro i s p h lo hi
  rw [exec_of_none h rfl nofun nofun]
  refine ⟨_, rfl, ?_⟩
  cases p <;> refine ⟨?_, ?_⟩ <;>
    simp [formSeq, seqPop, popLow, popHigh, idleCycles, lo, hi, Regs.setStackPair, Regs.setF, add_one_add_one]

end stack

/-! ## Jumps (R281 to R286) -/

/-- Settles O30: the jump is a primitive of its own after the last fetch, skipped when the condition fails. -/
theorem jumps : Obligations.Jumps := by
  intro i s u far near
  refine ⟨fun h => ?_, fun cc h => ?_, fun h => ?_, fun h => ?_, fun cc h => ?_, rfl, rfl, rfl, rfl⟩
  · rw [exec_of_form h nofun nofun]
    simp [formSeq, seqJpNn, jumpTemp, far, u, operands_of_word h rfl]
  · rw [exec_of_form h nofun nofun]
    simp [formSeq, seqJpCcNn, jumpTemp, far, u, operands_of_word h rfl]
  · exact exec_of_none h rfl nofun nofun
  · rw [exec_of_form h nofun nofun]
    simp [formSeq, seqJrE, jumpRelative, sext16, near, u, operands_of_byte h rfl]
  · rw [exec_of_form h nofun nofun]
    simp [formSeq, seqJrCcE, jumpRelative, sext16, near, u, operands_of_byte h rfl]

/-! ## Calls and restarts (R280, R287, R288, R292) -/

section calls
variable {i : Instr} {s : State}

theorem runRest_callCycles (t : State) : runRest callCycles t
    = (pushTwo (idleCycles 2 t) t.regs.sp (highByte t.regs.pc) (lowByte t.regs.pc)).setPc t.cpu.tmp16 := by
  simp [callCycles, pushAndJump, pushPcHigh, pushPcLow, pushByte, pushTwo, idleCycles, sub_one_sub_one]

theorem exec_call {target : Word} (h : callTarget i s = some target) : exec i s = .next
    ((pushTwo (idleCycles 2 (operands i s)) s.regs.sp (highByte s.regs.pc) (lowByte s.regs.pc)).setPc target) := by
  unfold callTarget at h
  split at h
  next hform =>
    cases h
    rw [exec_of_form hform nofun nofun, formSeq, seqCallNn, runSeq_idle, runRest_callCycles, operands_of_word hform rfl]
    rfl
  next cc hform =>
    split at h
    · cases h
      rw [exec_of_form hform nofun nofun, formSeq, seqCallCcNn, runSeq_unless, operands_regs, if_pos (by assumption),
        runRest_callCycles, operands_of_word hform rfl]
      rfl
    · cases h
  next k hform =>
    cases h
    rw [exec_of_form hform nofun nofun]
    simp [formSeq, seqRst, pushAndJump, pushPcHigh, pushPcLow, pushByte, pushTwo, idleCycles, sub_one_sub_one, rstTarget]
  next => cases h

theorem Kept.operands (i : Instr) (s : State) : Kept s (operands i s) := by
  obtain ⟨b, w, h⟩ := operands_eq i s
  rw [h]
  exact .proc s s.regs _

theorem operands_wf (i : Instr) {s : State} (h : MemWf s) : MemWf (operands i s) := by
  obtain ⟨b, w, h'⟩ := operands_eq i s
  rw [h']
  exact h.of_eq rfl rfl rfl rfl rfl

/-- Settles O31: a call's last four cycles push `pc` and jump; one whose condition fails stops before them. -/
theorem callsAndRestarts : Obligations.CallsAndRestarts := by
  refine fun i s => ⟨fun target h => ?_, fun cc h hcc => ?_⟩
  · intro u w t
    refine ⟨exec_call h, ?_, fun hm hs => ?_⟩
    · show ((pushTwo u s.regs.sp _ _).setPc target).regs = _
      simp [u]
    · have hkept := (Kept.operands i s).trans (.idleCycles 2 _)
      obtain ⟨hholds, hmap⟩ := holdsBelow_pushTwo (idleCycles_wf 2 (operands_wf i ((memWf_iff s).mp hm))) hkept hs s.regs.pc
      exact (Kept.proc _ _ _).holdsBelow hmap hs hholds
  · rw [exec_of_form h nofun nofun, formSeq, seqCallCcNn, runSeq_unless, operands_regs, hcc]
    rfl

end calls

/-! ## Returns (R289 to R291, R322) -/

/-- Settles O32: the two pops pass the return address in `tmp16`, and the jump takes it in the cycle after. -/
theorem returns : Obligations.Returns := by
  intro i s popped back
  refine ⟨fun h => ?_, fun cc h hcc => ?_, fun cc h hcc => ?_, fun h => ?_⟩
  all_goals rw [exec_of_none h rfl nofun nofun]
  · refine ⟨_, rfl, ?_, ?_⟩ <;>
      simp [formSeq, seqRet, popPcCycles, popLow, popHigh, jumpTemp, idleCycles, popped, back, add_one_add_one]
  · refine ⟨_, rfl, ?_, ?_⟩ <;>
      simp [formSeq, seqRetCc, popPcCycles, popLow, popHigh, jumpTemp, idleCycles, popped, back, hcc,
        add_one_add_one]
  · simp [formSeq, seqRetCc, hcc]
  · refine ⟨_, rfl, ?_, ?_⟩ <;>
      simp [formSeq, retiSeq, popLow, popHigh, jumpTemp, returnJump, idleCycles, popped, back, add_one_add_one]
    generalize nextCycle (nextCycle (nextCycle s)) = u
    rfl

end Sys2Proof.Machine


/-! # Increments, decimal adjustment, pair arithmetic and single bits (43_alu8.md R227 to R234, 44_alu16.md R240 to R242,
45_rotate_shift_bit.md R267 to R272) -/

namespace Sys2Proof.Machine

/-! ## `INC` and `DEC` of a byte (R227 to R230) -/

section incdec
variable {i : Instr} {s : State} {v : Byte} {c : Bool} {x : Regs}

theorem low_nibble_toNat (v : Byte) : (v &&& 0x0F).toNat = v.toNat % 16 := Nat.and_two_pow_sub_one_eq_mod v.toNat 4

/-- A comparison of bytes is one of naturals. -/
theorem beq_eq_decide_toNat (v w : Byte) : (v == w) = decide (v.toNat = w.toNat) := by
  rw [Bool.beq_eq_decide_eq, decide_eq_decide]
  exact BitVec.toNat_eq

theorem incFlags_inc8 (hf : x.f = (inc8 v c).byte) : incFlags v c x := by
  have hz : (inc8 v c).z = decide (v.toNat = 255) := by
    rw [inc8, beq_zero_eq_decide_toNat, decide_eq_decide]
    bv_omega
  have hh : (inc8 v c).h = decide (v.toNat % 16 = 15) := by
    show (v &&& 0x0F == 0x0F) = _
    rw [beq_eq_decide_toNat, low_nibble_toNat]
    rfl
  unfold incFlags
  rw [← hz, ← hh]
  exact flagsAre_of_f_eq_byte hf

theorem decFlags_dec8 (hf : x.f = (dec8 v c).byte) : decFlags v c x := by
  have hz : (dec8 v c).z = decide (v.toNat = 1) := by
    rw [dec8, beq_zero_eq_decide_toNat, decide_eq_decide]
    bv_omega
  have hh : (dec8 v c).h = decide (v.toNat % 16 = 0) := by
    show (v &&& 0x0F == 0) = _
    rw [beq_eq_decide_toNat, low_nibble_toNat]
    rfl
  unfold decFlags
  rw [← hz, ← hh]
  exact flagsAre_of_f_eq_byte hf

theorem exec_incHl (h : i.form = .incHl) :
    let v := memRead (idleCycles 1 s) s.regs.hl
    exec i s = .next (((memWrite (idleCycles 2 s) s.regs.hl (v + 1)).withTmp8 v).withRegs
      (s.regs.withFlags (inc8 v s.regs.flagC))) := by
  rw [exec_of_none h rfl nofun nofun]
  simp [formSeq, seqIncHl, readTemp, idleCycles, inc8, State.withFlags]

theorem exec_decHl (h : i.form = .decHl) :
    let v := memRead (idleCycles 1 s) s.regs.hl
    exec i s = .next (((memWrite (idleCycles 2 s) s.regs.hl (v - 1)).withTmp8 v).withRegs
      (s.regs.withFlags (dec8 v s.regs.flagC))) := by
  rw [exec_of_none h rfl nofun nofun]
  simp [formSeq, seqDecHl, readTemp, idleCycles, dec8, State.withFlags]

/-- Settles O23: `INC` and `DEC` are `inc8` and `dec8` of the old byte, which keep the carry they are given. -/
theorem incrementDecrementByte : Obligations.IncrementDecrementByte := by
  intro i s v c
  refine ⟨fun r h => ⟨_, exec_of_none h rfl nofun nofun, ?_, incFlags_inc8 rfl, ?_, rfl⟩,
    fun r h => ⟨_, exec_of_none h rfl nofun nofun, ?_, decFlags_dec8 rfl, ?_, rfl⟩,
    fun h => ⟨_, exec_incHl h, incFlags_inc8 rfl, ?_, ?_⟩, fun h => ⟨_, exec_decHl h, decFlags_dec8 rfl, ?_, ?_⟩⟩
  · exact ((s.regs.set r _).get_withF r _).trans (s.regs.get_set_same r _)
  · exact onlyFlagsAnd_set_flagsByte s.regs r _ _ _ _ _
  · exact ((s.regs.set r _).get_withF r _).trans (s.regs.get_set_same r _)
  · exact onlyFlagsAnd_set_flagsByte s.regs r _ _ _ _ _
  · exact onlyFlagsAnd_flagsByte s.regs _ _ _ _
  · rw [outside_withRegs, outside_withTmp8]
  · exact onlyFlagsAnd_flagsByte s.regs _ _ _ _
  · rw [outside_withRegs, outside_withTmp8]

end incdec

/-! ## `DAA`, `CPL`, `SCF` and `CCF` (R231 to R234) -/

section adjust
variable (a : Byte) (n h c : Bool)

/-- The adjustment is the sum of the two corrections of R231. -/
theorem daaAdjust_toNat : (daaAdjust a n h c).1.toNat
      = (if h = true ∨ (n = false ∧ a.toNat % 16 > 9) then 0x06 else 0)
        + (if c = true ∨ (n = false ∧ a.toNat > 0x99) then 0x60 else 0)
    ∧ (daaAdjust a n h c).2 = if n then c else (c || decide (a.toNat > 0x99)) := by
  have hsum (p q : Prop) [Decidable p] [Decidable q] :
      ((if p then (0x06 : Byte) else 0) ||| (if q then 0x60 else 0)).toNat
        = (if p then 0x06 else 0) + (if q then 0x60 else 0) := by
    by_cases hp : p <;> by_cases hq : q <;> simp [hp, hq]
  cases n
  · refine ⟨(hsum _ _).trans ?_, rfl⟩
    simp
  · refine ⟨(hsum _ _).trans ?_, rfl⟩
    simp

/-- `daa8` meets R231. -/
theorem daaSpec_daa8 : daaSpec a n h c (daa8 a n h c).value (daa8 a n h c).c := by
  obtain ⟨hadj, hcarry⟩ := daaAdjust_toNat a n h c
  unfold daaSpec
  intro low high
  have hadj' : (daaAdjust a n h c).1.toNat = low + high := hadj
  refine ⟨?_, hcarry⟩
  cases n
  · show ((a + (daaAdjust a false h c).1).toNat : Int) = ((a.toNat : Int) + (low + high)) % 256
    rw [BitVec.toNat_add, hadj']
    omega
  · show ((a - (daaAdjust a true h c).1).toNat : Int) = ((a.toNat : Int) - (low + high)) % 256
    have hle : low + high < 256 := hadj' ▸ (daaAdjust a true h c).1.isLt
    rw [BitVec.toNat_sub, hadj']
    omega

variable (x : Regs)

/-- A register file in which `A` and `F` changed. -/
theorem onlyFlagsAnd_a_flagsByte (v : Byte) (z : Bool) :
    onlyFlagsAnd [.a] x { x with a := v, f := flagsByte z n h c } := onlyFlagsAnd_set_flagsByte x .a v z n h c

/-- Settles O24: `daa8` meets R231, and the flags bytes of the other three are written out by their rules. -/
theorem adjustComplementCarry : Obligations.AdjustComplementCarry := by
  intro s
  obtain ⟨hz, hn, hh, hc⟩ := flagsAre_of_f_eq_byte (x := s.regs.daa) rfl
  refine ⟨⟨_, rfl, ?_, ?_, hn, hh, onlyFlagsAnd_a_flagsByte _ _ _ _ _ _, rfl⟩,
    ⟨_, rfl, fun k hk => ?_, flagsAre_of_f_eq_byte (q := ⟨0, _, _, _, _⟩) rfl, onlyFlagsAnd_a_flagsByte _ _ _ _ _ _, rfl⟩,
    ⟨_, rfl, flagsAre_of_f_eq_byte (q := ⟨0, _, _, _, _⟩) rfl, onlyFlagsAnd_flagsByte _ _ _ _ _, rfl⟩,
    ⟨_, rfl, flagsAre_of_f_eq_byte (q := ⟨0, _, _, _, _⟩) rfl, onlyFlagsAnd_flagsByte _ _ _ _ _, rfl⟩⟩
  · have h := daaSpec_daa8 s.regs.a s.regs.flagN s.regs.flagH s.regs.flagC
    rw [← hc] at h
    exact h
  · exact hz.trans (Bool.beq_eq_decide_eq _ _)
  · show bit (~~~s.regs.a) k = _
    simp [bit, hk]

end adjust

/-! ## Decimal arithmetic (R231) -/

section decimal

variable {a b c d : Nat}

/-- Packed BCD puts the tens digit into the upper nibble. -/
theorem bcd_digits (ha : a < 10) (hb : b < 10) : (bcd (10 * a + b)).toNat = 16 * a + b := by
  rw [bcd, BitVec.toNat_ofNat, Nat.mod_eq_of_lt (by omega)]
  omega

/-- The decimal sum, by the carries out of its two digits. -/
theorem digits_sum (ha : a < 10) (hb : b < 10) (hc : c < 10) (hd : d < 10) :
    (bcd ((10 * a + b + (10 * c + d)) % 100)).toNat = (16 * a + b + (16 * c + d)
      + ((if 9 < b + d then 6 else 0) + (if 100 ≤ 10 * a + b + (10 * c + d) then 96 else 0))) % 256 := by
  split_ifs
  · rw [show (10 * a + b + (10 * c + d)) % 100 = 10 * (a + c - 9) + (b + d - 10) by omega,
      bcd_digits (by omega) (by omega)]
    omega
  · rw [show (10 * a + b + (10 * c + d)) % 100 = 10 * (a + c + 1) + (b + d - 10) by omega,
      bcd_digits (by omega) (by omega)]
    omega
  · rw [show (10 * a + b + (10 * c + d)) % 100 = 10 * (a + c - 10) + (b + d) by omega,
      bcd_digits (by omega) (by omega)]
    omega
  · rw [show (10 * a + b + (10 * c + d)) % 100 = 10 * (a + c) + (b + d) by omega,
      bcd_digits (by omega) (by omega)]
    omega

/-- The decimal difference, by the borrows into its two digits. -/
theorem digits_difference (ha : a < 10) (hb : b < 10) (hc : c < 10) (hd : d < 10) :
    (bcd ((10 * a + b + 100 - (10 * c + d)) % 100)).toNat = (16 * a + b + 512 - (16 * c + d)
      - ((if b < d then 6 else 0) + (if 10 * a + b < 10 * c + d then 96 else 0))) % 256 := by
  split_ifs
  · rw [show (10 * a + b + 100 - (10 * c + d)) % 100 = 10 * (a + 9 - c) + (b + 10 - d) by omega,
      bcd_digits (by omega) (by omega)]
    omega
  · rw [show (10 * a + b + 100 - (10 * c + d)) % 100 = 10 * (a - 1 - c) + (b + 10 - d) by omega,
      bcd_digits (by omega) (by omega)]
    omega
  · rw [show (10 * a + b + 100 - (10 * c + d)) % 100 = 10 * (a + 10 - c) + (b - d) by omega,
      bcd_digits (by omega) (by omega)]
    omega
  · rw [show (10 * a + b + 100 - (10 * c + d)) % 100 = 10 * (a - c) + (b - d) by omega,
      bcd_digits (by omega) (by omega)]
    omega

/-- After an addition of packed BCD the corrections are those of the decimal carries. -/
theorem daa8_add_bcd (ha : a < 10) (hb : b < 10) (hc : c < 10) (hd : d < 10) :
    let p := add8 (bcd (10 * a + b)) (bcd (10 * c + d)) false
    let q := daa8 p.value p.n p.h p.c
    q.value = bcd ((10 * a + b + (10 * c + d)) % 100) ∧ q.c = decide (100 ≤ 10 * a + b + (10 * c + d)) := by
  intro p q
  have hv : p.value.toNat = (16 * a + b + (16 * c + d)) % 256 := by
    rw [← bcd_digits ha hb, ← bcd_digits hc hd]
    exact add8_value_toNat
  have hh : p.h = decide (15 < b + d) := by
    refine decide_eq_decide.mpr ?_
    rw [bcd_digits ha hb, bcd_digits hc hd, boolNat, if_neg Bool.false_ne_true]
    omega
  have hcarry : p.c = decide (255 < 16 * a + b + (16 * c + d)) := by
    refine decide_eq_decide.mpr ?_
    rw [bcd_digits ha hb, bcd_digits hc hd]
    rfl
  have hlow : 15 < b + d ∨ p.value.toNat % 16 > 9 ↔ 9 < b + d := by
    have hnibble : p.value.toNat % 16 = (b + d) % 16 := by omega
    omega
  have hhigh : 255 < 16 * a + b + (16 * c + d) ∨ p.value.toNat > 0x99 ↔ 100 ≤ 10 * a + b + (10 * c + d) := by omega
  obtain ⟨hsum, hout⟩ : daaSpec p.value false p.h p.c q.value q.c := daaSpec_daa8 _ _ _ _
  simp only [hh, hcarry, decide_eq_true_eq, true_and, hlow, hhigh, Bool.false_eq_true, if_false] at hsum hout
  refine ⟨BitVec.eq_of_toNat_eq ?_, ?_⟩
  · rw [digits_sum ha hb hc hd]
    rw [hv] at hsum
    omega
  · rw [hout, ← Bool.decide_or, decide_eq_decide]
    exact hhigh

/-- After a subtraction of packed BCD the corrections are those of the decimal borrows. -/
theorem daa8_sub_bcd (ha : a < 10) (hb : b < 10) (hc : c < 10) (hd : d < 10) :
    let m := sub8 (bcd (10 * a + b)) (bcd (10 * c + d)) false
    let q := daa8 m.value m.n m.h m.c
    q.value = bcd ((10 * a + b + 100 - (10 * c + d)) % 100) ∧ q.c = decide (10 * a + b < 10 * c + d) := by
  intro m q
  have hv : (m.value.toNat : Int) = ((16 * a + b : Nat) - (16 * c + d : Nat) - (boolNat false : Nat) : Int) % 256 := by
    rw [← bcd_digits ha hb, ← bcd_digits hc hd]
    exact sub8_value_toNat
  rw [boolNat, if_neg Bool.false_ne_true] at hv
  have hh : m.h = decide (b < d) := by
    refine decide_eq_decide.mpr ?_
    rw [bcd_digits ha hb, bcd_digits hc hd, boolNat, if_neg Bool.false_ne_true]
    omega
  have hborrow : m.c = decide (10 * a + b < 10 * c + d) := by
    refine decide_eq_decide.mpr ?_
    rw [bcd_digits ha hb, bcd_digits hc hd, boolNat, if_neg Bool.false_ne_true]
    omega
  obtain ⟨hsum, hout⟩ : daaSpec m.value true m.h m.c q.value q.c := daaSpec_daa8 _ _ _ _
  refine ⟨BitVec.eq_of_toNat_eq ?_, hout.trans hborrow⟩
  simp only [hh, hborrow, hv, decide_eq_true_eq, Bool.true_eq_false, false_and, or_false, if_true] at hsum
  rw [digits_difference ha hb hc hd]
  split_ifs at hsum ⊢ <;> omega

/-- A number below 100 is two digits. -/
theorem exists_digits (x : Fin 100) : ∃ a b, a < 10 ∧ b < 10 ∧ x.val = 10 * a + b :=
  ⟨x.val / 10, x.val % 10, by omega, by omega, by omega⟩

/-- Settles O25, digit by digit: the flags that the operation leaves name the digits to correct. -/
theorem decimalArithmetic : Obligations.DecimalArithmetic := by
  intro x y
  obtain ⟨a, b, ha, hb, hx⟩ := exists_digits x
  obtain ⟨c, d, hc, hd, hy⟩ := exists_digits y
  rw [hx, hy]
  obtain ⟨hadd, hcarry⟩ := daa8_add_bcd ha hb hc hd
  obtain ⟨hsub, hborrow⟩ := daa8_sub_bcd ha hb hc hd
  exact ⟨hadd, hcarry, hsub, hborrow⟩

end decimal

/-! ## Pair arithmetic (R240 to R242) -/

/-- Settles O26: each takes the pair and rewrites the register file, in the cycle after its fetch. -/
theorem pairArithmetic : Obligations.PairArithmetic := by
  intro i s p a h
  refine ⟨fun hform => ?_, fun hform => ?_, fun hform => ?_⟩
  · refine ⟨(nextCycle s).withRegs (s.regs.addHl p), ?_, ?_, ?_, ?_, rfl⟩
    · rw [exec_of_none hform rfl nofun nofun]
      simp [formSeq, seqAddHlRr]
    · exact (congrArg BitVec.toNat (join_high_low _)).trans (BitVec.toNat_add _ _)
    · exact flagsAre_of_f_eq_byte (q := ⟨0, _, _, _, _⟩) rfl
    · refine ⟨fun r hr => ?_, rfl, rfl, flagsByte_low _ _ _ _⟩
      cases r
      case h | l => exact absurd hr (by decide)
      all_goals rfl
  · refine ⟨(nextCycle s).withRegs (s.regs.setPair p (s.regs.getPair p + 1)), ?_, ?_, ?_, rfl⟩
    · rw [exec_of_none hform rfl nofun nofun]
      simp [formSeq, seqIncRr]
    · rw [State.withRegs_regs, Regs.getPair_setPair]
      exact BitVec.toNat_add _ _
    · rw [State.withRegs_regs, Regs.getPair_setPair]
  · refine ⟨(nextCycle s).withRegs (s.regs.setPair p (s.regs.getPair p - 1)), ?_, ?_, ?_, rfl⟩
    · rw [exec_of_none hform rfl nofun nofun]
      simp [formSeq, seqDecRr]
    · rw [State.withRegs_regs, Regs.getPair_setPair, BitVec.toNat_sub, Nat.add_comm]
      rfl
    · rw [State.withRegs_regs, Regs.getPair_setPair]

/-! ## `BIT`, `RES` and `SET` (R267 to R272) -/

section bits
variable {k : Fin 8} {v : Byte} {j : Nat}

theorem bit_one_shiftLeft (k : Fin 8) (j : Nat) : bit ((1 : Byte) <<< k.val) j = decide (j = k.val) := by
  have htwo : (1 : Byte) <<< k.val = BitVec.twoPow 8 k.val := (BitVec.twoPow_eq 8 k.val).symm
  rw [bit, htwo, BitVec.getLsbD_twoPow, decide_eq_true k.isLt, Bool.true_and, decide_eq_decide]
  exact eq_comm

theorem bit_clearBit (hj : j < 8) : bit (clearBit k v) j = if j = k.val then false else bit v j := by
  have h : bit (clearBit k v) j = (bit v j && !bit ((1 : Byte) <<< k.val) j) := by
    simp [clearBit, bit, hj]
  rw [h, bit_one_shiftLeft]
  by_cases hk : j = k.val <;> simp [hk]

theorem bit_setBit (k : Fin 8) (v : Byte) (j : Nat) : bit (setBit k v) j = if j = k.val then true else bit v j := by
  have h : bit (setBit k v) j = (bit v j || bit ((1 : Byte) <<< k.val) j) := BitVec.getLsbD_or
  rw [h, bit_one_shiftLeft]
  by_cases hk : j = k.val <;> simp [hk]

/-- Settles O29: the three operations of a byte, and the two memory forms' read and write in consecutive cycles. -/
theorem bitInstructions : Obligations.BitInstructions := by
  intro i s k v only
  refine ⟨fun r h => ?_, fun h => ?_, fun r h => ?_, fun r h => ?_, fun h => ?_, fun h => ?_⟩
  all_goals rw [exec_of_none h rfl nofun nofun]
  · exact ⟨_, rfl, flagsAre_of_f_eq_byte (q := ⟨0, _, _, _, _⟩) rfl, onlyFlagsAnd_flagsByte _ _ _ _ _, rfl⟩
  · refine ⟨((nextCycle s).withTmp8 v).withRegs (s.regs.testBit k v), ?_,
      flagsAre_of_f_eq_byte (q := ⟨0, _, _, _, _⟩) rfl, onlyFlagsAnd_flagsByte _ _ _ _ _, rfl⟩
    simp [formSeq, seqBitHl, readTemp, v, idleCycles]
  · exact ⟨_, fun j hj => bit_clearBit hj, rfl⟩
  · exact ⟨_, fun j _ => bit_setBit k _ j, rfl⟩
  · refine ⟨clearBit k v, (memWrite (idleCycles 2 s) s.regs.hl (clearBit k v)).withTmp8 v, fun j hj => bit_clearBit hj,
      ?_, ?_, rfl⟩ <;> simp [formSeq, seqResHl, readTemp, v, idleCycles]
  · refine ⟨setBit k v, (memWrite (idleCycles 2 s) s.regs.hl (setBit k v)).withTmp8 v, fun j _ => bit_setBit k _ j,
      ?_, ?_, rfl⟩ <;> simp [formSeq, seqSetHl, readTemp, v, idleCycles]

end bits

end Sys2Proof.Machine


/-! # Frames: what an instruction leaves alone (41_load8.md to 47_system.md) -/

namespace Sys2Proof.Machine

/-! ## What every primitive of a sequence keeps, the sequence keeps -/

/-- A relation between the machine before and after each primitive of a sequence. -/
def Each (R : State → State → Prop) (l : List Micro) : Prop := ∀ m ∈ l, ∀ s, R s (m.act s)

section each
variable {R : State → State → Prop} {l : List Micro} {m : Micro}

theorem Each.nil : Each R [] := fun _ h => nomatch h

theorem Each.cons (h : ∀ s, R s (m.act s)) (hl : Each R l) : Each R (m :: l) := List.forall_mem_cons.mpr ⟨h, hl⟩

theorem Each.one (h : ∀ s, R s (m.act s)) : Each R [m] := .cons h .nil

theorem Each.runRest (htrans : ∀ s t u, R s t → R t u → R s u) (hrefl : ∀ s, R s s) (hcycle : ∀ s, R s (nextCycle s))
    (h : Each R l) (s : State) : R s (runRest l s) := by
  induction l generalizing s with
  | nil => exact hrefl s
  | cons m rest ih =>
    obtain ⟨hm, hrest⟩ := List.forall_mem_cons.mp h
    have hfirst := htrans _ _ _ (hcycle s) (hm _)
    rw [Machine.runRest]
    split
    · exact hfirst
    · exact htrans _ _ _ hfirst (ih hrest _)

theorem Each.runSeq (htrans : ∀ s t u, R s t → R t u → R s u) (hrefl : ∀ s, R s s) (hcycle : ∀ s, R s (nextCycle s))
    (h : Each R l) (s : State) : R s (runSeq l s) := by
  cases l with
  | nil => exact hrefl s
  | cons m rest =>
    obtain ⟨hm, hrest⟩ := List.forall_mem_cons.mp h
    rw [Machine.runSeq]
    split
    · exact hm s
    · exact htrans _ _ _ (hm s) (Each.runRest htrans hrefl hcycle hrest _)

end each

/-! ## The register file and the flags (R13, R189, R235) -/

/-- The control state without the dead temps and the bit that a store may arm (R18, R451). -/
def Cpu.lasting (c : Cpu) : Cpu := { c with tmp8 := 0, tmp16 := 0, speedArmed := false }

/-- What a form's rule lets the register file do, with `pc` kept and the low nibble of `F` clear. -/
structure FrameRegs (f : Form) (x y : Regs) : Prop where
  keeps : keepsRegs f x y
  pc : y.pc = x.pc
  low : y.f &&& 0x0F = 0

section regs
variable {f : Form} {x y z : Regs} {m : Byte}

/-- A flags byte holds its four flags and nothing else (R13). -/
theorem eq_flagsByte : ∀ f : Byte, f &&& 0x0F = 0 → f = flagsByte (bit f 7) (bit f 6) (bit f 5) (bit f 4) := by
  decide

theorem keepsRegs.trans (h : keepsRegs f x y) (h' : keepsRegs f y z) : keepsRegs f x z := by
  obtain ⟨hget, hsp, hf⟩ := h
  obtain ⟨hget', hsp', hf'⟩ := h'
  exact ⟨fun r hr => (hget' r hr).trans (hget r hr), fun h => (hsp' h).trans (hsp h), hf'.trans hf⟩

theorem FrameRegs.trans (h : FrameRegs f x y) (h' : FrameRegs f y z) : FrameRegs f x z :=
  ⟨h.keeps.trans h'.keeps, h'.pc.trans h.pc, h'.low⟩

/-- A register file that keeps `F`. -/
theorem FrameRegs.of_f_eq (hx : x.f &&& 0x0F = 0) (hf : y.f = x.f) (hget : ∀ r, r ∉ f.writtenRegs → y.get r = x.get r)
    (hsp : f.writesSp = false → y.sp = x.sp) (hpc : y.pc = x.pc) : FrameRegs f x y :=
  ⟨⟨hget, hsp, by rw [hf]⟩, hpc, hf ▸ hx⟩

theorem FrameRegs.refl (f : Form) (hx : x.f &&& 0x0F = 0) : FrameRegs f x x :=
  .of_f_eq hx rfl (fun _ _ => rfl) (fun _ => rfl) rfl

/-- A form that writes `F` and registers of its list. -/
theorem FrameRegs.of_onlyFlagsAnd {rs : List Reg8} (h : onlyFlagsAnd rs x y) (hrs : ∀ r ∈ rs, r ∈ f.writtenRegs)
    (hf : y.f &&& ~~~f.writtenFlags = x.f &&& ~~~f.writtenFlags) : FrameRegs f x y := by
  obtain ⟨hget, hsp, hpc, hlow⟩ := h
  exact ⟨⟨fun r hr => hget r fun hr' => hr (hrs r hr'), fun _ => hsp, hf⟩, hpc, hlow⟩

/-- A form that writes all four flags. -/
theorem FrameRegs.of_allFlags {rs : List Reg8} (hx : x.f &&& 0x0F = 0) (h : onlyFlagsAnd rs x y)
    (hrs : ∀ r ∈ rs, r ∈ f.writtenRegs) (hm : f.writtenFlags = 0xF0) : FrameRegs f x y :=
  have ⟨_, _, _, hlow⟩ := h
  .of_onlyFlagsAnd h hrs (by rw [hm]; exact hlow.trans hx.symm)

/-! A flags byte agrees with `F` in the flags that its rule takes from `F`. -/

theorem flagsByte_and_of_c (hx : x.f &&& 0x0F = 0) (z n h : Bool) :
    flagsByte z n h x.flagC &&& ~~~0xE0 = x.f &&& ~~~0xE0 := by
  have hmask : ∀ z n h z' n' h' c, flagsByte z n h c &&& ~~~0xE0 = flagsByte z' n' h' c &&& ~~~0xE0 := by decide
  exact (hmask z n h _ _ _ _).trans (congrArg (· &&& ~~~0xE0) (eq_flagsByte x.f hx).symm)

theorem flagsByte_and_of_z (hx : x.f &&& 0x0F = 0) (n h c : Bool) :
    flagsByte x.flagZ n h c &&& ~~~0x70 = x.f &&& ~~~0x70 := by
  have hmask : ∀ z n h c n' h' c', flagsByte z n h c &&& ~~~0x70 = flagsByte z n' h' c' &&& ~~~0x70 := by decide
  exact (hmask _ n h c _ _ _).trans (congrArg (· &&& ~~~0x70) (eq_flagsByte x.f hx).symm)

theorem flagsByte_and_of_n (hx : x.f &&& 0x0F = 0) (z h c : Bool) :
    flagsByte z x.flagN h c &&& ~~~0xB0 = x.f &&& ~~~0xB0 := by
  have hmask : ∀ z n h c z' h' c', flagsByte z n h c &&& ~~~0xB0 = flagsByte z' n h' c' &&& ~~~0xB0 := by decide
  exact (hmask z _ h c _ _ _).trans (congrArg (· &&& ~~~0xB0) (eq_flagsByte x.f hx).symm)

theorem flagsByte_and_of_zc (hx : x.f &&& 0x0F = 0) (n h : Bool) :
    flagsByte x.flagZ n h x.flagC &&& ~~~0x60 = x.f &&& ~~~0x60 := by
  have hmask : ∀ z n h c n' h', flagsByte z n h c &&& ~~~0x60 = flagsByte z n' h' c &&& ~~~0x60 := by decide
  exact (hmask _ n h _ _ _).trans (congrArg (· &&& ~~~0x60) (eq_flagsByte x.f hx).symm)

/-! The register file after the writes of each kind of form. -/

theorem frameRegs_set (hx : x.f &&& 0x0F = 0) {r : Reg8} (hr : r ∈ f.writtenRegs) (v : Byte) :
    FrameRegs f x (x.set r v) :=
  .of_f_eq hx (Regs.set_f _ _ _) (fun _ hr' => Regs.get_set_other _ _ fun e => hr' (e ▸ hr)) (fun _ => Regs.set_sp _ _ _)
    (Regs.set_pc _ _ _)

theorem frameRegs_setPair (hx : x.f &&& 0x0F = 0) {p : RegPair} (hp : ∀ r ∈ p.regs, r ∈ f.writtenRegs)
    (hsp : p = .sp → f.writesSp = true) (w : Word) : FrameRegs f x (x.setPair p w) := by
  refine .of_f_eq hx (Regs.setPair_f _ _ _) (fun r hr => ?_) (fun h => ?_) (Regs.setPair_pc _ _ _)
  · have hr' : r ∉ p.regs := fun h => hr (hp r h)
    cases p <;> cases r <;> first | rfl | exact absurd (by decide) hr'
  · cases p
    case sp => rw [hsp rfl] at h; cases h
    all_goals rfl

theorem frameRegs_setSp (hx : x.f &&& 0x0F = 0) (hsp : f.writesSp = true) (w : Word) :
    FrameRegs f x { x with sp := w } :=
  .of_f_eq hx rfl (fun r _ => by cases r <;> rfl) (fun h => by rw [hsp] at h; cases h) rfl

/-- `POP rr` writes the two registers of its pair; `F` of `AF` takes the upper nibble (R194). -/
theorem frameRegs_setStackPair (hx : x.f &&& 0x0F = 0) (p : StackPair) (w : Word) :
    FrameRegs (.pop p) x (x.setStackPair p w) := by
  cases p
  case af =>
    have hlow : lowByte w &&& 0xF0 &&& 0x0F = 0 := (BitVec.and_assoc _ _ _).trans BitVec.and_zero
    refine .of_allFlags (rs := [.a]) hx ⟨fun r hr => ?_, rfl, rfl, hlow⟩ (by decide) rfl
    cases r
    case a => exact absurd List.mem_cons_self hr
    all_goals rfl
  all_goals
    refine .of_f_eq hx rfl (fun r hr => ?_) (fun h => by cases h) rfl
    cases r <;> first | rfl | exact absurd (by decide) hr

end regs

/-! ## The state -/

/-- What a form of the load, arithmetic and rotate families lets a state do. -/
structure Framed (f : Form) (s t : State) : Prop where
  cpu : t.cpu.lasting = s.cpu.lasting
  regs : s.regs.f &&& 0x0F = 0 → FrameRegs f s.regs t.regs

section state
variable {f : Form} {s t u : State} {x : Regs}

theorem Framed.refl (f : Form) (s : State) : Framed f s s := ⟨rfl, FrameRegs.refl f⟩

theorem Framed.trans (h : Framed f s t) (h' : Framed f t u) : Framed f s u :=
  ⟨h'.cpu.trans h.cpu, fun hx => (h.regs hx).trans (h'.regs (h.regs hx).low)⟩

/-- What changes neither the register file nor the lasting control state. -/
theorem Framed.of_eq (f : Form) (hregs : t.regs = s.regs) (hcpu : t.cpu.lasting = s.cpu.lasting) : Framed f s t :=
  ⟨hcpu, fun hx => by rw [hregs]; exact FrameRegs.refl f hx⟩

theorem framed_nextCycle (f : Form) (s : State) : Framed f s (nextCycle s) :=
  .of_eq f (nextCycle_regs s) (congrArg _ (nextCycle_cpu s))

theorem Framed.memWrite (h : Framed f s t) (a : Word) (v : Byte) : Framed f s (memWrite t a v) :=
  h.trans (.of_eq f (memWrite_regs t a v) (by rw [memWrite_cpu]; rfl))

theorem Framed.withTmp8 (h : Framed f s t) (v : Byte) : Framed f s (t.withTmp8 v) := h.trans (.of_eq f rfl rfl)

theorem Framed.withTmp16 (h : Framed f s t) (v : Word) : Framed f s (t.withTmp16 v) := h.trans (.of_eq f rfl rfl)

theorem Framed.withRegs (h : Framed f s t) (hx : t.regs.f &&& 0x0F = 0 → FrameRegs f t.regs x) :
    Framed f s (t.withRegs x) := h.trans ⟨rfl, hx⟩

theorem Framed.setReg (h : Framed f s t) {r : Reg8} (hr : r ∈ f.writtenRegs) (v : Byte) : Framed f s (t.setReg r v) :=
  h.withRegs fun hx => frameRegs_set hx hr v

theorem Framed.setSp (h : Framed f s t) (hsp : f.writesSp = true) (v : Word) : Framed f s (t.setSp v) :=
  h.withRegs fun hx => frameRegs_setSp hx hsp v

theorem Framed.setHl (h : Framed f s t) (hp : ∀ r ∈ RegPair.hl.regs, r ∈ f.writtenRegs) (v : Word) :
    Framed f s (t.setHl v) := h.withRegs fun hx => frameRegs_setPair hx hp nofun v

theorem framed_readTemp (f : Form) (s : State) (a : Word) : Framed f s (readTemp s a) := (Framed.refl f s).withTmp8 _

theorem framed_loadInto {r : Reg8} (hr : r ∈ f.writtenRegs) (s : State) (a : Word) : Framed f s (loadInto r a s) :=
  (framed_readTemp f s a).setReg hr _

theorem framed_popLow (hsp : f.writesSp = true) (s : State) : Framed f s (popLow s) :=
  ((Framed.refl f s).withTmp16 _).setSp hsp _

theorem framed_popHigh (hsp : f.writesSp = true) (s : State) : Framed f s (popHigh s) :=
  ((Framed.refl f s).withTmp16 _).setSp hsp _

theorem framed_pushByte (hsp : f.writesSp = true) (s : State) (v : Byte) : Framed f s (pushByte s v) :=
  ((Framed.refl f s).setSp hsp _).memWrite _ _

theorem Each.idleFramed {l : List Micro} (hl : Each (Framed f) l) : Each (Framed f) (Micro.idle :: l) :=
  .cons (Framed.refl f) hl

theorem framed_operands (f : Form) (i : Instr) (s : State) : Framed f s (operands i s) := by
  obtain ⟨b, w, h⟩ := operands_eq i s
  rw [h]
  exact .of_eq f rfl rfl

end state

/-- Every primitive of a load does what the rule lets it. -/
theorem framed_of_load {f : Form} (h : f.family = .load8 ∨ f.family = .load16) : Each (Framed f) (formSeq f) := by
  cases f
  case ldRR | ldRN => exact .one fun s => (Framed.refl _ s).setReg List.mem_cons_self _
  case ldRHl | ldABc | ldADe | ldANn | ldhAC | ldhAN =>
    exact .idleFramed (.one fun s => framed_loadInto List.mem_cons_self s _)
  case ldHlR | ldHlN | ldBcA | ldDeA | ldNnA | ldhCA | ldhNA =>
    exact .idleFramed (.one fun s => (Framed.refl _ s).memWrite _ _)
  case ldAHld | ldAHli =>
    exact .idleFramed (.one fun s => ((framed_readTemp _ s _).setHl (by decide) _).setReg List.mem_cons_self _)
  case ldHldA | ldHliA => exact .idleFramed (.one fun s => ((Framed.refl _ s).memWrite _ _).setHl (by decide) _)
  case ldRrNn p =>
    exact .one fun s => (Framed.refl _ s).withRegs fun hx => 
      frameRegs_setPair (f := .ldRrNn p) hx (fun _ hr => hr) (by rintro rfl; rfl) _
  case ldNnSp =>
    exact .idleFramed (.cons (fun s => (Framed.refl _ s).memWrite _ _) (.one fun s => (Framed.refl _ s).memWrite _ _))
  case ldSpHl => exact .idleFramed (.one fun s => (Framed.refl _ s).setSp rfl _)
  case push =>
    exact .idleFramed (.idleFramed (.cons (fun s => framed_pushByte rfl s _) (.one fun s => framed_pushByte rfl s _)))
  case pop p =>
    exact .idleFramed (.cons (framed_popLow rfl) (.one fun s =>
      (framed_popHigh rfl s).withRegs fun hx => frameRegs_setStackPair hx p _))
  case ldHlSpE =>
    exact .idleFramed (.one fun s => (Framed.refl _ s).withRegs fun hx =>
      .of_allFlags hx (onlyFlagsAnd_ldHlSp _ _) (fun _ hr => hr) rfl)
  all_goals exact h.elim nofun nofun

/-- A read, and a write back at the same address with flags. -/
theorem framed_readModifyWrite {f : Form} {g : State → State} (hg : ∀ s, Framed f s (g s)) :
    Each (Framed f) [Micro.idle, Micro.of fun s => readTemp s s.regs.hl, Micro.of g] :=
  .idleFramed (.cons (fun s => framed_readTemp f s _) (.one hg))

theorem onlyFlagsAnd_alu_written (x : Regs) (o : AluOp) (v : Byte) :
    onlyFlagsAnd (if o = .cp then [] else [.a]) x (x.alu o v) := by
  by_cases h : o = .cp
  · subst h
    exact onlyFlagsAnd_flagsByte x _ _ _ _
  · rw [if_neg h]
    exact onlyFlagsAnd_alu x o v

theorem onlyFlagsAnd_addHl (x : Regs) (p : RegPair) : onlyFlagsAnd [.h, .l] x (x.addHl p) := by
  refine ⟨fun r hr => ?_, rfl, rfl, flagsByte_low _ _ _ _⟩
  cases r
  case h | l => exact absurd hr (by decide)
  all_goals rfl

/-- `ADD SP,e` writes `sp` and all four flags (R243). -/
theorem frameRegs_addSp (x : Regs) (hx : x.f &&& 0x0F = 0) (e : Byte) : FrameRegs .addSpE x (x.addSp e) := by
  have hlow : addSpFlags x.sp e &&& 0x0F = 0 := flagsByte_low _ _ _ _
  exact ⟨⟨fun r _ => by cases r <;> rfl, nofun, hlow.trans hx.symm⟩, rfl, hlow⟩

/-- Every primitive of an arithmetic, rotate or bit form does what the rule lets it. -/
theorem framed_of_arithmetic {f : Form} (h : f.family = .alu8 ∨ f.family = .alu16 ∨ f.family = .rotateBit) :
    Each (Framed f) (formSeq f) := by
  cases f
  case aluR o r =>
    exact .one fun s => (Framed.refl _ s).withRegs fun hx =>
      .of_allFlags hx (onlyFlagsAnd_alu_written _ o _) (fun _ hr => hr) rfl
  case aluN o =>
    exact .one fun s => (Framed.refl _ s).withRegs fun hx =>
      .of_allFlags hx (onlyFlagsAnd_alu_written _ o _) (fun _ hr => hr) rfl
  case aluHl o =>
    exact .idleFramed (.one fun s => (framed_readTemp _ s _).withRegs fun hx =>
      .of_allFlags hx (onlyFlagsAnd_alu_written _ o _) (fun _ hr => hr) rfl)
  case incR r | decR r =>
    exact .one fun s => (Framed.refl _ s).withRegs fun hx =>
      .of_onlyFlagsAnd (onlyFlagsAnd_set_flagsByte s.regs r _ _ _ _ _) (fun _ hr => hr) (flagsByte_and_of_c hx _ _ _)
  case incHl | decHl =>
    exact framed_readModifyWrite fun s => ((Framed.refl _ s).memWrite _ _).withRegs fun hx =>
      .of_onlyFlagsAnd (onlyFlagsAnd_flagsByte _ _ _ _ _) nofun (by
        rw [memWrite_regs] at hx ⊢
        exact flagsByte_and_of_c hx _ _ _)
  case daa =>
    exact .one fun s => (Framed.refl _ s).withRegs fun hx =>
      .of_onlyFlagsAnd (onlyFlagsAnd_a_flagsByte _ _ _ s.regs _ _) (fun _ hr => hr) (flagsByte_and_of_n hx _ _ _)
  case cpl =>
    exact .one fun s => (Framed.refl _ s).withRegs fun hx =>
      .of_onlyFlagsAnd (onlyFlagsAnd_a_flagsByte _ _ _ s.regs _ _) (fun _ hr => hr) (flagsByte_and_of_zc hx _ _)
  case scf | ccf =>
    exact .one fun s => (Framed.refl _ s).withRegs fun hx =>
      .of_onlyFlagsAnd (onlyFlagsAnd_flagsByte _ _ _ _ _) nofun (flagsByte_and_of_z hx _ _ _)
  case addHlRr p =>
    exact .idleFramed (.one fun s => (Framed.refl _ s).withRegs fun hx =>
      .of_onlyFlagsAnd (onlyFlagsAnd_addHl _ p) (fun _ hr => hr) (flagsByte_and_of_z hx _ _ _))
  case incRr p | decRr p =>
    exact .idleFramed (.one fun s => (Framed.refl _ s).withRegs fun hx =>
      frameRegs_setPair (p := p) hx (by exact fun _ hr => hr) (by rintro rfl; rfl) _)
  case addSpE => exact .idleFramed (.idleFramed (.one fun s => (Framed.refl _ s).withRegs fun hx => frameRegs_addSp _ hx _))
  case rlca | rrca | rla | rra =>
    exact .one fun s => (Framed.refl _ s).withRegs fun hx =>
      .of_allFlags hx (onlyFlagsAnd_a_flagsByte _ _ _ s.regs _ _) (fun _ hr => hr) rfl
  case rotR o r =>
    exact .one fun s => (Framed.refl _ s).withRegs fun hx =>
      .of_allFlags hx (onlyFlagsAnd_set_flagsByte s.regs r _ _ _ _ _) (fun _ hr => hr) rfl
  case rotHl =>
    exact framed_readModifyWrite fun s => ((Framed.refl _ s).memWrite _ _).withRegs fun hx =>
      .of_allFlags hx (onlyFlagsAnd_flagsByte _ _ _ _ _) nofun rfl
  case bitR =>
    exact .one fun s => (Framed.refl _ s).withRegs fun hx =>
      .of_onlyFlagsAnd (onlyFlagsAnd_flagsByte _ _ _ _ _) nofun (flagsByte_and_of_c hx _ _ _)
  case bitHl =>
    exact .idleFramed (.one fun s => (framed_readTemp _ s _).withRegs fun hx =>
      .of_onlyFlagsAnd (onlyFlagsAnd_flagsByte _ _ _ _ _) nofun (flagsByte_and_of_c hx _ _ _))
  case resR | setR => exact .one fun s => (Framed.refl _ s).setReg List.mem_cons_self _
  case resHl | setHl => exact framed_readModifyWrite fun s => (Framed.refl _ s).memWrite _ _
  all_goals exact h.elim nofun (Or.rec nofun nofun)

section exec
variable {i : Instr} {s t : State}

/-- An instruction whose primitives do what its rule lets them. -/
theorem exec_framed (hp : i.form ≠ .prefixCb) (hu : i.form ≠ .undefined) (h : Each (Framed i.form) (formSeq i.form))
    (hexec : exec i s = .next t) : Framed i.form s t := by
  rw [exec_form i s hp hu] at hexec
  cases hexec
  exact (framed_operands _ i s).trans
    (h.runSeq (fun _ _ _ => .trans) (.refl _) (framed_nextCycle _) _)

/-- The statement of the two frames, from what the primitives do. -/
theorem Framed.statement (h : Framed i.form s t) (hs : s.flagsWf = true) :
    keepsRegs i.form s.regs t.regs ∧ t.regs.pc = s.regs.pc ∧ t.cpu.lasting = s.cpu.lasting := by
  have hregs := h.regs (flagsWf_iff.mp hs)
  exact ⟨hregs.keeps, hregs.pc, h.cpu⟩

theorem exec_framed_of_load (h : i.form.family = .load8 ∨ i.form.family = .load16) (hexec : exec i s = .next t) :
    Framed i.form s t :=
  exec_framed (fun e => by rw [e] at h; exact h.elim nofun nofun) (fun e => by rw [e] at h; exact h.elim nofun nofun)
    (framed_of_load h) hexec

theorem exec_framed_of_arithmetic (h : i.form.family = .alu8 ∨ i.form.family = .alu16 ∨ i.form.family = .rotateBit)
    (hexec : exec i s = .next t) : Framed i.form s t :=
  exec_framed (fun e => by rw [e] at h; exact h.elim nofun (Or.rec nofun nofun))
    (fun e => by rw [e] at h; exact h.elim nofun (Or.rec nofun nofun)) (framed_of_arithmetic h) hexec

end exec

/-- Settles O33: no primitive of a load leaves what its rule lets it do. -/
theorem frameOfLoads : Obligations.FrameOfLoads := fun _ _ _ h hs hexec => (exec_framed_of_load h hexec).statement hs

/-- Settles O34: no primitive of an arithmetic, rotate or bit form leaves what its rule lets it do. -/
theorem frameOfArithmetic : Obligations.FrameOfArithmetic := fun _ _ _ h hs hexec =>
  (exec_framed_of_arithmetic h hexec).statement hs

/-! ## Control transfer and the system instructions (R280 to R301) -/

/-- What a jump, a call or a return does to the registers and to `cpu_fault`. -/
structure Transfers (f : Form) (s t : State) : Prop where
  general : { t.regs with sp := 0, pc := 0 } = { s.regs with sp := 0, pc := 0 }
  sp : f.writesSp = false → t.regs.sp = s.regs.sp
  fault : t.cpu.cpuFault = s.cpu.cpuFault

section control
variable {f : Form} {s t u : State}

theorem Transfers.refl (f : Form) (s : State) : Transfers f s s := ⟨rfl, fun _ => rfl, rfl⟩

theorem Transfers.trans (h : Transfers f s t) (h' : Transfers f t u) : Transfers f s u :=
  ⟨h'.general.trans h.general, fun hsp => (h'.sp hsp).trans (h.sp hsp), h'.fault.trans h.fault⟩

/-- What leaves the registers and `cpu_fault`. -/
theorem Transfers.of_eq (f : Form) (hregs : t.regs = s.regs) (hfault : t.cpu.cpuFault = s.cpu.cpuFault) :
    Transfers f s t := ⟨by rw [hregs], fun _ => by rw [hregs], hfault⟩

theorem transfers_nextCycle (f : Form) (s : State) : Transfers f s (nextCycle s) :=
  .of_eq f (nextCycle_regs s) (congrArg _ (nextCycle_cpu s))

theorem Transfers.memWrite (h : Transfers f s t) (a : Word) (v : Byte) : Transfers f s (memWrite t a v) :=
  h.trans (.of_eq f (memWrite_regs t a v) (memWrite_cpuFault t a v))

theorem Transfers.withTmp16 (h : Transfers f s t) (v : Word) : Transfers f s (t.withTmp16 v) := h.trans (.of_eq f rfl rfl)

theorem Transfers.setPc (h : Transfers f s t) (v : Word) : Transfers f s (t.setPc v) :=
  h.trans ⟨rfl, fun _ => rfl, rfl⟩

theorem Transfers.setSp (h : Transfers f s t) (hsp : f.writesSp = true) (v : Word) : Transfers f s (t.setSp v) :=
  h.trans ⟨rfl, fun h' => (by rw [hsp] at h'; cases h'), rfl⟩

theorem transfers_jumpTemp (f : Form) (s : State) : Transfers f s (jumpTemp s) := (Transfers.refl f s).setPc _

theorem transfers_pushByte (hsp : f.writesSp = true) (s : State) (v : Byte) : Transfers f s (pushByte s v) :=
  ((Transfers.refl f s).setSp hsp _).memWrite _ _

theorem transfers_pop (hsp : f.writesSp = true) (s : State) (w v : Word) : Transfers f s ((s.withTmp16 w).setSp v) :=
  ((Transfers.refl f s).withTmp16 _).setSp hsp _

theorem Each.idleTransfers {l : List Micro} (hl : Each (Transfers f) l) : Each (Transfers f) (Micro.idle :: l) :=
  .cons (Transfers.refl f) hl

theorem Each.unlessTransfers {l : List Micro} {cc : Cond} (hl : Each (Transfers f) l) :
    Each (Transfers f) (Micro.unless id cc :: l) := .cons (Transfers.refl f) hl

theorem transfers_callCycles (hsp : f.writesSp = true) : Each (Transfers f) callCycles :=
  .idleTransfers (.cons (fun s => transfers_pushByte hsp s _) (.one fun s => (transfers_pushByte hsp s _).setPc _))

theorem transfers_popPcCycles (hsp : f.writesSp = true) : Each (Transfers f) popPcCycles :=
  .cons (fun s => transfers_pop hsp s _ _) (.cons (fun s => transfers_pop hsp s _ _) (.one (transfers_jumpTemp f)))

/-- Every primitive of a control form writes `pc` and, where its rule says so, `sp`. -/
theorem transfers_of_control (h : f.family = .control) : Each (Transfers f) (formSeq f) := by
  cases f
  case jpNn => exact .idleTransfers (.one (transfers_jumpTemp _))
  case jpCcNn => exact .unlessTransfers (.one (transfers_jumpTemp _))
  case jpHl => exact .one fun s => (Transfers.refl _ s).setPc _
  case jrE => exact .idleTransfers (.one fun s => (Transfers.refl _ s).setPc _)
  case jrCcE => exact .unlessTransfers (.one fun s => (Transfers.refl _ s).setPc _)
  case callNn => exact .idleTransfers (transfers_callCycles rfl)
  case callCcNn => exact .unlessTransfers (transfers_callCycles rfl)
  case ret => exact .idleTransfers (transfers_popPcCycles rfl)
  case retCc => exact .idleTransfers (.unlessTransfers (transfers_popPcCycles rfl))
  case reti =>
    exact .idleTransfers (.cons (fun s => transfers_pop rfl s _ _) (.cons (fun s => transfers_pop rfl s _ _)
      (.one fun s => (transfers_jumpTemp _ s).trans (.of_eq _ rfl rfl))))
  case rst =>
    exact .idleTransfers (.idleTransfers (.cons (fun s => transfers_pushByte rfl s _) (.one fun s =>
      (transfers_pushByte rfl s _).setPc _)))
  all_goals exact nomatch h

theorem transfers_operands (f : Form) (i : Instr) (s : State) : Transfers f s (operands i s) := by
  obtain ⟨b, w, h⟩ := operands_eq i s
  rw [h]
  exact .of_eq f rfl rfl

theorem exec_transfers {i : Instr} (h : i.form.family = .control) (hexec : exec i s = .next t) :
    Transfers i.form s t := by
  rw [exec_form i s (fun e => by rw [e] at h; cases h) (fun e => by rw [e] at h; cases h)] at hexec
  cases hexec
  exact (transfers_operands _ i s).trans
    ((transfers_of_control h).runSeq (fun _ _ _ => .trans) (.refl _) (transfers_nextCycle _) _)

theorem Regs.get_eq_of_general {x y : Regs} (h : ({ y with sp := 0, pc := 0 } : Regs) = { x with sp := 0, pc := 0 })
    (r : Reg8) : y.get r = x.get r := by
  have hr := congrArg (fun z : Regs => z.get r) h
  cases r <;> exact hr

theorem enterHalt_frame (s : State) : (enterHalt s).regs = s.regs ∧ (enterHalt s).cpu.cpuFault = s.cpu.cpuFault := by
  unfold enterHalt
  split
  · exact ⟨rfl, rfl⟩
  · split
    · exact ⟨rfl, rfl⟩
    · exact ⟨rfl, rfl⟩

theorem enterStop_frame (s : State) : (enterStop s).regs = { s.regs with pc := (enterStop s).regs.pc }
    ∧ (enterStop s).cpu.cpuFault = s.cpu.cpuFault := by
  unfold enterStop
  dsimp only
  split
  · exact ⟨rfl, rfl⟩
  · exact ⟨rfl, rfl⟩

/-- The system instructions but 0xCB (R295 to R301). -/
theorem form_system {i : Instr} (h : i.form.family = .system) (hp : i ≠ .prefix_CB) :
    i = .nop ∨ i = .di ∨ i = .ei ∨ i = .halt ∨ i = .stop ∨ ∃ op, i = .undefined op := by
  cases i
  case prefix_CB => exact absurd rfl hp
  case nop | di | ei | halt | stop => simp
  case undefined op => simp
  all_goals exact nomatch h

/-- Settles O35: a control form writes `pc` and, where its rule says so, `sp`; of the system instructions `STOP` alone
writes a register, which is `pc`. -/
theorem frameOfControl : Obligations.FrameOfControl := by
  intro i s t h hp hexec
  obtain h | h := h
  · have ht := exec_transfers h hexec
    exact ⟨Regs.get_eq_of_general ht.general, (congrArg Regs.f ht.general :), ht.sp, fun hsys => by rw [h] at hsys; cases hsys⟩
  · have of_regs (hregs : t.regs = s.regs) : (∀ r, t.regs.get r = s.regs.get r) ∧ t.regs.f = s.regs.f
        ∧ (i.form.writesSp = false → t.regs.sp = s.regs.sp)
        ∧ (i.form.family = .system → i ≠ .stop → t.regs.pc = s.regs.pc) := by simp [hregs]
    obtain rfl | rfl | rfl | rfl | rfl | ⟨op, rfl⟩ := form_system h hp <;> cases hexec
    · exact of_regs rfl
    · exact of_regs rfl
    · exact of_regs rfl
    · exact of_regs (enterHalt_frame s).1
    · have hregs : (runSeq seqStop s).regs = { s.regs with pc := (enterStop s).regs.pc } := (enterStop_frame s).1
      exact ⟨fun r => by rw [hregs]; cases r <;> rfl, by rw [hregs], fun _ => by rw [hregs], fun _ hne => absurd rfl hne⟩
    · exact of_regs rfl

/-! ## Nothing but an undefined opcode stops the machine (R310, R312) -/

theorem family_cases (f : Form) : (f.family = .load8 ∨ f.family = .load16)
    ∨ (f.family = .alu8 ∨ f.family = .alu16 ∨ f.family = .rotateBit) ∨ f.family = .control ∨ f.family = .system := by
  cases f.family <;> simp

/-- A second opcode selects a rotate, shift or bit form (R131). -/
theorem family_formSecond : ∀ op : Byte, (formSecond op).family = .rotateBit := by decide

theorem cpuFault_of_lasting {c d : Cpu} (h : c.lasting = d.lasting) : c.cpuFault = d.cpuFault :=
  (congrArg Cpu.cpuFault h :)

/-- No instruction but an undefined opcode sets `cpu_fault`. -/
theorem exec_cpuFault {i : Instr} (hexec : exec i s = .next t) (hu : ∀ op, i ≠ .undefined op) :
    t.cpu.cpuFault = s.cpu.cpuFault := by
  by_cases hp : i = .prefix_CB
  · subst hp
    cases hexec
    set u := fetchPrefixed (nextCycle s) with hfetch
    have hu : u.cpu.cpuFault = s.cpu.cpuFault := (congrArg Cpu.cpuFault (nextCycle_cpu s) :)
    have hseq := (framed_of_arithmetic (.inr (.inr (family_formSecond u.cpu.ir)))).runSeq
      (fun _ _ _ => .trans) (.refl _) (framed_nextCycle _) u
    exact (cpuFault_of_lasting hseq.cpu).trans hu
  · obtain h | h | h | h := family_cases i.form
    · exact cpuFault_of_lasting (exec_framed_of_load h hexec).cpu
    · exact cpuFault_of_lasting (exec_framed_of_arithmetic h hexec).cpu
    · exact (exec_transfers h hexec).fault
    · obtain rfl | rfl | rfl | rfl | rfl | ⟨op, rfl⟩ := form_system h hp <;> cases hexec
      · rfl
      · rfl
      · rfl
      · exact (enterHalt_frame s).2
      · exact (enterStop_frame s).2
      · exact absurd rfl (hu op)

/-- Every instruction answers a next state. -/
theorem exec_eq_next (i : Instr) (s : State) : ∃ t, exec i s = .next t := by
  by_cases hp : i.form = .prefixCb
  · rw [form_prefix hp]
    exact ⟨_, rfl⟩
  · by_cases hu : i.form = .undefined
    · obtain ⟨op, rfl⟩ := form_undefined hu
      exact ⟨_, rfl⟩
    · exact ⟨_, exec_form i s hp hu⟩

theorem runBoundary_eq_next (s : State) : ∃ t, runBoundary s = .next t := by
  unfold runBoundary
  split
  · exact ⟨_, rfl⟩
  · obtain ⟨t, h⟩ := exec_eq_next (fetchInstr s).2 (fetchInstr s).1
    exact ⟨_, congrArg finishTick h⟩

theorem runCpu_eq_next (s : State) : ∃ t, runCpu s = .next t := by
  unfold runCpu
  split
  · exact ⟨_, rfl⟩
  · split
    · exact ⟨_, rfl⟩
    · exact ⟨_, rfl⟩
    all_goals exact runBoundary_eq_next _

/-- Settles O15: without `cpu_fault` a step answers a next state, and no other instruction writes that bit. -/
theorem onlyUndefinedStops : Obligations.OnlyUndefinedStops := by
  refine ⟨fun i s t hexec hu => exec_cpuFault hexec hu, fun s r h => ?_, fun s e h => ?_⟩
  · unfold step at h
    split at h
    · cases h
    · obtain ⟨t, ht⟩ := runCpu_eq_next (beginTick s)
      cases ht.symm.trans h
  · unfold step at h
    split at h
    · assumption
    · obtain ⟨t, ht⟩ := runCpu_eq_next (beginTick s)
      cases ht.symm.trans h

end control

end Sys2Proof.Machine


/-! # Frames of memory: what an instruction without a store, and one with a store, leave alone (20_memory.md) -/

namespace Sys2Proof.Machine

/-! ## Forms without a store (R62) -/

/-- The processor's registers and control state changed, its speed bits apart. -/
def OnlyProc (s t : State) : Prop := ∃ x c, SameSpeed c s.cpu ∧ t = s.withProc x c

section onlyProc
variable {s t u : State} {f : Form} {l : List Micro} {i : Instr}

theorem OnlyProc.refl (s : State) : OnlyProc s s := ⟨s.regs, s.cpu, ⟨rfl, rfl⟩, rfl⟩

theorem OnlyProc.trans (h : OnlyProc s t) (h' : OnlyProc t u) : OnlyProc s u := by
  obtain ⟨x, c, hc, rfl⟩ := h
  obtain ⟨y, d, hd, rfl⟩ := h'
  exact ⟨y, d, ⟨hd.speed.trans hc.speed, hd.armed.trans hc.armed⟩, rfl⟩

theorem OnlyProc.kept (h : OnlyProc s t) : Kept s t := by
  obtain ⟨x, c, -, rfl⟩ := h
  exact .proc s x c

/-- Every byte of the address space stays. -/
theorem OnlyProc.memRead (h : OnlyProc s t) (a : Word) : memRead t a = memRead s a := by
  obtain ⟨x, c, hc, rfl⟩ := h
  exact memRead_withProc hc a

theorem OnlyProc.withRegs (h : OnlyProc s t) (x : Regs) : OnlyProc s (t.withRegs x) := h.trans ⟨x, t.cpu, ⟨rfl, rfl⟩, rfl⟩

theorem OnlyProc.withCpu (h : OnlyProc s t) {c : Cpu} (hs : c.doubleSpeed = t.cpu.doubleSpeed)
    (ha : c.speedArmed = t.cpu.speedArmed) : OnlyProc s (t.withCpu c) := h.trans ⟨t.regs, c, ⟨hs, ha⟩, rfl⟩

theorem OnlyProc.withTmp8 (h : OnlyProc s t) (v : Byte) : OnlyProc s (t.withTmp8 v) := h.withCpu rfl rfl

theorem OnlyProc.withTmp16 (h : OnlyProc s t) (v : Word) : OnlyProc s (t.withTmp16 v) := h.withCpu rfl rfl

theorem onlyProc_loadInto (s : State) (r : Reg8) (a : Word) : OnlyProc s (loadInto r a s) :=
  ((OnlyProc.refl s).withTmp8 _).withRegs _

theorem onlyProc_popLow (s : State) : OnlyProc s (popLow s) := ((OnlyProc.refl s).withTmp16 _).withRegs _

theorem onlyProc_popHigh (s : State) : OnlyProc s (popHigh s) := ((OnlyProc.refl s).withTmp16 _).withRegs _

theorem onlyProc_jumpTemp (s : State) : OnlyProc s (jumpTemp s) := (OnlyProc.refl s).withRegs _

theorem onlyProc_enterHalt (s : State) : OnlyProc s (enterHalt s) := by
  unfold enterHalt
  split
  · exact (OnlyProc.refl s).withCpu rfl rfl
  · split
    · exact (OnlyProc.refl s).withCpu rfl rfl
    · exact (OnlyProc.refl s).withCpu rfl rfl

theorem onlyProc_operands (i : Instr) (s : State) : OnlyProc s (operands i s) := by
  obtain ⟨b, w, h⟩ := operands_eq i s
  rw [h]
  exact (OnlyProc.refl s).withCpu rfl rfl

theorem Each.idleProc (hl : Each OnlyProc l) : Each OnlyProc (Micro.idle :: l) := .cons OnlyProc.refl hl

theorem Each.unlessProc {cc : Cond} (hl : Each OnlyProc l) : Each OnlyProc (Micro.unless id cc :: l) :=
  .cons OnlyProc.refl hl

theorem onlyProc_popPcCycles : Each OnlyProc popPcCycles :=
  .cons onlyProc_popLow (.cons onlyProc_popHigh (.one onlyProc_jumpTemp))

/-- No primitive of a form without a store writes outside the processor; `STOP` switches the speed, and a conditional
call has the cycles of a call. -/
theorem onlyProc_formSeq {x : Regs} (h : f.stores x = false) (hstop : f ≠ .stop) (hcall : ∀ cc, f ≠ .callCcNn cc) :
    Each OnlyProc (formSeq f) := by
  cases f
  case stop => exact absurd rfl hstop
  case callCcNn cc => exact absurd rfl (hcall cc)
  case prefixCb | undefined => exact .nil
  case nop => exact .one OnlyProc.refl
  case halt => exact .one onlyProc_enterHalt
  case di | ei => exact .one fun s => (OnlyProc.refl s).withCpu rfl rfl
  case ldRR | ldRN | ldRrNn | aluR | aluN | incR | decR | daa | cpl | scf | ccf | rlca | rrca | rla | rra | rotR | bitR
      | resR | setR | jpHl =>
    exact .one fun s => (OnlyProc.refl s).withRegs _
  case ldRHl | ldABc | ldADe | ldANn | ldhAC | ldhAN => exact .idleProc (.one fun s => onlyProc_loadInto s _ _)
  case ldAHld | ldAHli => exact .idleProc (.one fun s => (((OnlyProc.refl s).withTmp8 _).withRegs _).withRegs _)
  case ldSpHl | ldHlSpE | addHlRr | incRr | decRr | jrE => exact .idleProc (.one fun s => (OnlyProc.refl s).withRegs _)
  case aluHl | bitHl => exact .idleProc (.one fun s => ((OnlyProc.refl s).withTmp8 _).withRegs _)
  case addSpE => exact .idleProc (.idleProc (.one fun s => (OnlyProc.refl s).withRegs _))
  case pop => exact .idleProc (.cons onlyProc_popLow (.one fun s => (onlyProc_popHigh s).withRegs _))
  case jpNn => exact .idleProc (.one onlyProc_jumpTemp)
  case jpCcNn => exact .unlessProc (.one onlyProc_jumpTemp)
  case jrCcE => exact .unlessProc (.one fun s => (OnlyProc.refl s).withRegs _)
  case ret => exact .idleProc onlyProc_popPcCycles
  case retCc => exact .idleProc (.unlessProc onlyProc_popPcCycles)
  case reti =>
    exact .idleProc (.cons onlyProc_popLow (.cons onlyProc_popHigh (.one fun s =>
      (onlyProc_jumpTemp s).withCpu rfl rfl)))
  all_goals exact nomatch h

theorem onlyProc_runSeq (h : Each OnlyProc l) (hlen : l.length ≤ 1) (s : State) : OnlyProc s (runSeq l s) := by
  obtain _ | ⟨m, _ | ⟨m', rest⟩⟩ := l
  · exact .refl s
  · have hm := h m List.mem_cons_self s
    rw [runSeq]
    split <;> exact hm
  · exact absurd hlen (by simp)

theorem form_stop (h : i.form = .stop) : i = .stop := by
  cases i
  case stop => rfl
  all_goals exact nomatch h

/-- What an instruction without a store leaves. -/
theorem exec_without_store (hp : i ≠ .prefix_CB) (h : i.form.stores s.regs = false) (hexec : exec i s = .next t) :
    Kept s t ∧ ((formSeq i.form).length ≤ 1 → i ≠ .stop → OnlyProc s t) := by
  by_cases hstop : i = .stop
  · subst hstop
    cases hexec
    have hkept : Kept s (enterStop s) := by
      unfold enterStop
      dsimp only
      split <;> exact .proc s _ _
    exact ⟨hkept, fun _ hne => absurd rfl hne⟩
  by_cases hundefined : i.form = .undefined
  · obtain ⟨op, rfl⟩ := form_undefined hundefined
    cases hexec
    have hraise : OnlyProc s (raiseUnsupported op s) := (OnlyProc.refl s).withCpu rfl rfl
    exact ⟨hraise.kept, fun _ _ => hraise⟩
  by_cases hcall : ∃ cc, i.form = .callCcNn cc
  · obtain ⟨cc, hcc⟩ := hcall
    rw [hcc] at h
    have hnot : OnlyProc s t := by
      obtain ⟨-, hfails⟩ := callsAndRestarts i s
      cases (hfails cc hcc h).symm.trans hexec
      exact onlyProc_operands i s
    exact ⟨hnot.kept, fun _ _ => hnot⟩
  · rw [exec_form i s (mt form_prefix hp) hundefined] at hexec
    cases hexec
    have hseq := onlyProc_formSeq h (mt form_stop hstop) (not_exists.mp hcall)
    have hops := onlyProc_operands i s
    have hkept : Each Kept (formSeq i.form) := fun m hm s => (hseq m hm s).kept
    exact ⟨hops.kept.trans (hkept.runSeq (fun _ _ _ => .trans) .refl .nextCycle _),
      fun hlen _ => hops.trans (onlyProc_runSeq hseq hlen _)⟩

/-- Settles O36: the primitives of such a form write the processor's state only, and the blocks between them keep the map
and the steady bytes. -/
theorem frameWithoutStore : Obligations.FrameWithoutStore := by
  intro i s t hp h hexec
  obtain ⟨hkept, hshort⟩ := exec_without_store hp h hexec
  exact ⟨fun a ha => hkept.memRead ha, fun hlen hstop => (hshort hlen hstop).memRead, hkept.ie, hkept.router,
    hkept.selAction, hkept.selDirection, hkept.cart⟩

end onlyProc

/-! ## A store to plain memory (R63) -/

/-- Every steady byte is kept whose handler is not `q`, and so is the map. -/
structure KeptBut (q : Handler) (s t : State) : Prop where
  handler : ∀ a, Machine.handler t a = Machine.handler s a
  steady : ∀ a, Machine.steady s a = true → Machine.steady t a = true
  read : ∀ a, Machine.handler s a ≠ q → Machine.steady s a = true → memRead t a = memRead s a

section stores
variable {s t u : State} {q : Handler} {a b : Word} {k j : Nat}

theorem KeptBut.trans (h : KeptBut q s t) (h' : KeptBut q t u) : KeptBut q s u where
  handler a := (h'.handler a).trans (h.handler a)
  steady a ha := h'.steady a (h.steady a ha)
  read a hq ha := (h'.read a ((h.handler a).symm ▸ hq) (h.steady a ha)).trans (h.read a hq ha)

theorem Kept.but (h : Kept s t) (q : Handler) : KeptBut q s t :=
  ⟨h.handler, fun _ => h.steady, fun _ _ => h.memRead⟩

theorem ramWindow_ne_clock (cfg : Config) (bank k : Nat) : ramWindow cfg bank ≠ .clock k := by
  unfold ramWindow
  split <;> nofun

/-- The clock window has five registers (R99). -/
theorem extWindow_clock {cfg : Config} {c : Cart} (h : c.extWindow cfg = .clock k) : k < 5 := by
  have hram (bank : Nat) : ramWindow cfg bank ≠ .clock k := ramWindow_ne_clock cfg bank k
  unfold Cart.extWindow at h
  split at h
  case h_1 => split at h <;> cases h
  case h_3 =>
    split_ifs at h
    · exact absurd h (hram _)
    · cases h
      omega
  all_goals
    split at h
    · exact absurd h (hram _)
    · cases h

theorem rtc_lt_five (h : handler s a = .rtc k) : k < 5 := by
  by_cases hlo : a.toNat < 0x8000
  · obtain ⟨i, hi⟩ | ⟨i, hi⟩ := romHandler_cases s a.toNat
    all_goals rw [handler_of_lt hlo, hi] at h; cases h
  rw [handler_of_ge (by omega), highHandler] at h
  obtain ⟨i, hi⟩ := wramHandler_eq_wram s (a.toNat - 0xC000)
  obtain ⟨j, hj⟩ := wramHandler_eq_wram s (a.toNat - 0xE000)
  rw [hi, hj] at h
  split_ifs at h
  unfold extHandler at h
  split at h
  next => cases h
  next => cases h
  next k' hk' =>
    cases h
    exact extWindow_clock hk'

/-- A clock register that was written leaves the others (R99). -/
theorem rtcRead_write_other (r : Rtc) (v : Byte) (hk : k < 5) (hj : j < 5) (hne : j ≠ k) :
    (r.write k v).read j = r.read j := by
  interval_cases k <;> interval_cases j <;> first | rfl | exact absurd rfl hne

/-- A change that leaves the map and the copy engine, and what every handler but `q` reads. -/
theorem keptBut_of_readHandler (hmap : ∀ a, handler t a = handler s a) (hcfg : t.cfg = s.cfg) (hdma : t.dma = s.dma)
    (hread : ∀ a, handler s a ≠ q → (∀ off, handler s a ≠ .io off) →
      readHandler t (handler s a) = readHandler s (handler s a)) : KeptBut q s t where
  handler := hmap
  steady a ha := by
    unfold steady at ha ⊢
    rwa [hmap, hcfg, hdma]
  read a hq ha := by
    rw [memRead, hmap]
    exact hread a hq (steady_iff.mp ha).1

/-- A store to plain memory changes the one cell behind its address. -/
theorem memWrite_plain (h : (handler s a).isPlain = true) (v : Byte) : KeptBut (handler s a) s (memWrite s a v) := by
  unfold memWrite
  generalize hq : handler s a = q at h
  cases q
  case rom | bootRom | io => cases h
  case unmapped => exact (Kept.refl s).but _
  case vram i | oam i =>
    rw [writeHandler]
    split
    · exact (Kept.refl s).but _
    · refine keptBut_of_readHandler (fun _ => rfl) rfl rfl fun b hb _ => ?_
      generalize handler s b = qb at hb
      cases qb <;> first | rfl | exact cellRead_write_other _ _ fun e => hb (congrArg _ e)
  case wram i | hram i | extRam i =>
    refine keptBut_of_readHandler (fun _ => rfl) rfl rfl fun b hb _ => ?_
    generalize handler s b = qb at hb
    cases qb <;> first | rfl | exact cellRead_write_other _ _ fun e => hb (congrArg _ e)
  case rtc k =>
    refine keptBut_of_readHandler (fun _ => rfl) rfl rfl fun b hb _ => ?_
    cases hqb : handler s b
    case rtc j => exact rtcRead_write_other _ v (rtc_lt_five hq) (rtc_lt_five hqb) fun e => hb (by rw [hqb, e])
    all_goals rfl
  case ie =>
    refine keptBut_of_readHandler (fun _ => rfl) rfl rfl fun b hb _ => ?_
    generalize handler s b = qb at hb
    cases qb
    case ie => exact absurd rfl hb
    all_goals rfl

/-! ## Forms with a store -/

variable {i : Instr} {a' : Word}

theorem exec_resHl {n : Fin 8} (h : i.form = .resHl n) :
    let v := memRead (idleCycles 1 s) s.regs.hl
    exec i s = .next ((memWrite (idleCycles 2 s) s.regs.hl (clearBit n v)).withTmp8 v) := by
  rw [exec_of_none h rfl nofun nofun]
  simp [formSeq, seqResHl, readTemp, idleCycles]

theorem exec_setHl {n : Fin 8} (h : i.form = .setHl n) :
    let v := memRead (idleCycles 1 s) s.regs.hl
    exec i s = .next ((memWrite (idleCycles 2 s) s.regs.hl (setBit n v)).withTmp8 v) := by
  rw [exec_of_none h rfl nofun nofun]
  simp [formSeq, seqSetHl, readTemp, idleCycles]

/-- A form that stores one byte: before and after its write only time passes and the processor's state changes. -/
theorem exec_one_store (ha : storeAddress i s = some a) :
    ∃ u v x c, Kept s u ∧ exec i s = .next ((memWrite u a v).withProc x c) := by
  have hplain {v : Byte} (hv : storedByte i s = some v) :
      ∃ u v x c, Kept s u ∧ exec i s = .next ((memWrite u a v).withProc x c) :=
    ⟨_, _, _, _, (Kept.operands i s).trans (.nextCycle _), storesToMemory i s a v ha hv⟩
  have hidle : Kept s (idleCycles 2 s) := .idleCycles 2 s
  unfold storeAddress at ha
  split at ha
  case h_15 => cases ha
  all_goals rename_i hform
  case h_5 => cases ha; exact ⟨_, _, _, _, hidle, exec_incHl hform⟩
  case h_6 => cases ha; exact ⟨_, _, _, _, hidle, exec_decHl hform⟩
  case h_7 => cases ha; exact ⟨_, _, _, _, hidle, exec_rotHl hform⟩
  case h_8 => cases ha; exact ⟨_, _, _, _, hidle, exec_resHl hform⟩
  case h_9 => cases ha; exact ⟨_, _, _, _, hidle, exec_setHl hform⟩
  all_goals exact hplain (by rw [storedByte, hform])

/-- Two writes; before, between and after them only time passes and the processor's state changes. -/
def TwoStores (s t : State) (a a' : Word) : Prop := ∃ (u : State) (v w : Byte) (g : State → State) (x : Regs) (c : Cpu),
  Kept s u ∧ (∀ t, Kept t (g t)) ∧ t = (memWrite (g (memWrite u a v)) a' w).withProc x c

theorem twoStores_pushTwo (h : Kept s u) (hi lo : Byte) (x : Regs) :
    TwoStores s ((pushTwo u s.regs.sp hi lo).withRegs x) (s.regs.sp - 1) (s.regs.sp - 2) :=
  ⟨u.setSp (s.regs.sp - 1), hi, lo, fun t => (nextCycle t).setSp (s.regs.sp - 2), x, _, h.trans (.proc _ _ _),
    fun t => (Kept.nextCycle t).trans (.proc _ _ _), rfl⟩

theorem exec_two_stores (ha : storePair i s = some (a, a')) : ∃ t, exec i s = .next t ∧ TwoStores s t a a' := by
  have hcall {target : Word} (h : callTarget i s = some target) :
      ∃ t, exec i s = .next t ∧ TwoStores s t (s.regs.sp - 1) (s.regs.sp - 2) :=
    ⟨_, exec_call h, twoStores_pushTwo ((Kept.operands i s).trans (.idleCycles 2 _)) _ _ _⟩
  unfold storePair at ha
  split at ha
  next hform =>
    cases ha
    obtain ⟨-, hexec⟩ := twoByteStores i s
    exact ⟨_, hexec hform, nextCycle (operands i s), _, _, nextCycle, _, _, (Kept.operands i s).trans (.nextCycle _),
      .nextCycle, rfl⟩
  next p hform =>
    cases ha
    exact ⟨_, exec_push hform, twoStores_pushTwo (.idleCycles 2 s) _ _ _⟩
  next hform => cases ha; exact hcall (by rw [callTarget, hform])
  next k hform => cases ha; exact hcall (by rw [callTarget, hform])
  next cc hform =>
    split at ha
    next hcc => cases ha; exact hcall (by rw [callTarget, hform]; exact if_pos hcc)
    next => cases ha
  next => cases ha

/-- Settles O37: the writes of a form that stores are at the addresses of its rule, and a write to plain memory changes
the cell behind its address alone. -/
theorem frameOfStores : Obligations.FrameOfStores := by
  constructor
  · intro i s t a ha hplain hexec b hb hs
    obtain ⟨u, v, x, c, hu, h⟩ := exec_one_store ha
    cases h.symm.trans hexec
    have hwrite := memWrite_plain (s := u) (a := a) (by rwa [hu.handler]) v
    rw [hu.handler] at hwrite
    exact (((hu.but _).trans hwrite).trans ((Kept.proc _ x c).but _)).read b hb hs
  · intro i s t a a' ha hplain hplain' hexec b hb hb' hs
    obtain ⟨t', h, u, v, w, g, x, c, hu, hg, rfl⟩ := exec_two_stores ha
    cases h.symm.trans hexec
    have hfirst := memWrite_plain (s := u) (a := a) (by rwa [hu.handler]) v
    rw [hu.handler] at hfirst
    have hbetween := ((hu.but _).trans hfirst).trans ((hg _).but _)
    have hsecond := memWrite_plain (s := g (memWrite u a v)) (a := a') (by rwa [hbetween.handler]) w
    rw [hbetween.handler] at hsecond
    have hlast := (hsecond.trans ((Kept.proc _ x c).but _)).read b ((hbetween.handler b).symm ▸ hb') (hbetween.steady b hs)
    exact hlast.trans (hbetween.read b hb hs)

end stores

end Sys2Proof.Machine


/-! # Registers: interrupt, sound and input, and blocked stores (20_memory.md R85, 60_exceptions.md R314 to R327,
61_devices_ppu_apu.md R434, R449) -/

namespace Sys2Proof.Machine

/-! ## Stores that the pixel pipeline blocks (R69, R73, R85) -/

section blocked
variable {s : State} {a : Word} {v : Byte}

theorem handler_videoRam (hlo : 0x8000 ≤ a.toNat) (hhi : a.toNat < 0xA000) :
    handler s a = .vram (vramBankOf s * 0x2000 + (a.toNat - 0x8000)) := by
  rw [handler_of_ge hlo, highHandler, if_pos hhi]

theorem handler_spriteTable (hlo : 0xFE00 ≤ a.toNat) (hhi : a.toNat < 0xFEA0) : handler s a = .oam (a.toNat - 0xFE00) := by
  rw [handler_of_ge (by omega), highHandler, if_neg (by omega), if_neg (by omega), if_neg (by omega), if_neg (by omega),
    if_pos hhi]

theorem vramBlocked_iff (p : Ppu) : vramBlocked p = true ↔ bit p.lcdc 7 = true ∧ p.mode = .transfer := by
  simp [vramBlocked]

theorem oamBlocked_iff (p : Ppu) :
    oamBlocked p = true ↔ bit p.lcdc 7 = true ∧ (p.mode = .search ∨ p.mode = .transfer) := by
  simp [oamBlocked]

/-- Settles O40: each of the two regions has one handler, whose store looks at the pipeline's mode and whose read does
not. -/
theorem ppuBlocksWrites : Obligations.PpuBlocksWrites := by
  refine fun s a v => ⟨fun hlo hhi => ?_, fun hlo hhi => ?_⟩ <;> intro i
  · have hi : handler s a = .vram i := handler_videoRam hlo hhi
    refine ⟨by rw [memRead, hi]; rfl, ?_⟩
    rw [memWrite, hi, writeHandler, if_congr (vramBlocked_iff s.ppu) rfl rfl]
  · have hi : handler s a = .oam i := handler_spriteTable hlo hhi
    refine ⟨by rw [memRead, hi]; rfl, ?_⟩
    rw [memWrite, hi, writeHandler, if_congr (oamBlocked_iff s.ppu) rfl rfl]

end blocked

/-! ## `IF` and `IE` (R314, R315, R327) -/

/-- Settles O44: 0xFF0F is a register of the I/O window, and 0xFFFF has a handler of its own. -/
theorem interruptRegisters : Obligations.InterruptRegisters := by
  intro s v
  have hie : handler s 0xFFFF = .ie := handler_of_ge (by decide)
  refine ⟨memRead_offset 0x0F rfl (by decide), ?_, memWrite_offset 0x0F rfl (by decide), ?_⟩
  · rw [memRead, hie]; rfl
  · rw [memWrite, hie]; rfl

/-! ## The trigger of a sound channel (R426, R432, R434, R435) -/

section sound

/-- The high three bits of a frequency come from a write, the low eight stay (R422). -/
theorem freqHigh_eq (f : BitVec 11) (v : Byte) :
    freqHigh f v = BitVec.ofNat 11 (v.toNat % 8 * 256 + f.toNat % 256) := by
  have hlow : (f &&& (0x0FF : BitVec 11)).toNat = f.toNat % 256 := Nat.and_two_pow_sub_one_eq_mod f.toNat 8
  have hhigh : ((v.setWidth 11) <<< 8).toNat = v.toNat % 8 * 2 ^ 8 := by
    rw [BitVec.toNat_shiftLeft, BitVec.toNat_setWidth, Nat.shiftLeft_eq]
    omega
  refine BitVec.eq_of_toNat_eq ?_
  show ((f &&& (0x0FF : BitVec 11)) ||| ((v.setWidth 11) <<< 8)).toNat = _
  rw [BitVec.toNat_or, hlow, hhigh, Nat.or_comm, Nat.mul_comm, ← Nat.two_pow_add_eq_or_of_lt (by omega),
    BitVec.toNat_ofNat]
  omega

theorem length_trigger_eq {w : Nat} (l : Length w) :
    l.trigger = if l.full = false ∧ l.count = 0 then { count := 0, full := true } else l := by
  simp [Length.trigger, Length.expired, Length.top]

theorem noisePeriod_eq (c : Noise) :
    noisePeriod c = (if c.divisor = 0 then 8 else 16 * c.divisor.toNat) * 2 ^ c.shift.toNat := Nat.shiftLeft_eq _ _

/-- The sweep unit after a trigger of channel 1, which comes to the check's two effects, one of them undone (log 17). -/
theorem trigger1_eq (p : Apu) : p.trigger1 = { p with
    ch1 := p.ch1.trigger
    sweep := { p.sweep with
      shadow := p.ch1.freq
      div := p.sweep.period
      en := decide (p.sweep.period ≠ 0 ∨ p.sweep.shift ≠ 0)
      negUsed := decide (p.sweep.shift ≠ 0) && p.sweep.neg } } := by
  unfold Apu.trigger1
  by_cases h : p.sweep.shift = 0#3
  · simp [h, Sweep.trigger]
  · simp [h, Sweep.trigger, Apu.sweepCheck, Pulse.trigger]

/-- With sound on, a write of one of the channels' registers (R421 to R424). -/
theorem memWrite_channel {s : State} {a : Word} {v : Byte} (off : Nat) (ha : a.toNat = 0xFF00 + off) (hlo : 0x10 ≤ off)
    (hhi : off < 0x26) (hon : s.apu.on = true) : (memWrite s a v).apu
      = if off < 0x1A then s.apu.writePulse off v else s.apu.writeUpper off v := by
  rw [memWrite_offset off ha (by omega), writeIo, if_neg (by omega), if_pos (by omega), writeApu, Apu.write,
    if_neg (by omega), if_neg (by omega), hon]
  rfl

/-- Settles O51: each of the four registers triggers its channel. -/
theorem soundTrigger : Obligations.SoundTrigger := by
  intro s v hon hv p f loud reload pulse
  have hfreq (x : BitVec 11) : f x = freqHigh x v := (freqHigh_eq x v).symm
  have hreload {w : Nat} (l : Length w) : reload l = l.trigger := (length_trigger_eq l).symm
  have hpulse (c : Pulse) : pulse c = c.writeControl v := by
    rw [Pulse.writeControl, hv]
    simp only [pulse, hfreq, hreload]
    rfl
  refine ⟨?_, ?_, ?_, ?_⟩
  · rw [memWrite_channel 0x14 rfl (by decide) (by decide) hon, hpulse]
    show p.writeControl1 v = _
    rw [Apu.writeControl1, if_pos hv, trigger1_eq, Pulse.writeControl, if_pos hv, hfreq]
  · rw [memWrite_channel 0x19 rfl (by decide) (by decide) hon, hpulse]
    rfl
  · rw [memWrite_channel 0x1E rfl (by decide) (by decide) hon]
    show { p with ch3 := p.ch3.writeControl v } = _
    rw [Wave.writeControl, if_pos hv, hreload, hfreq]
    rfl
  · rw [memWrite_channel 0x23 rfl (by decide) (by decide) hon]
    show { p with ch4 := p.ch4.writeControl v } = _
    rw [Noise.writeControl, if_pos hv, hreload, ← noisePeriod_eq]
    rfl

end sound

/-! ## P1 (R449) -/

section pad

theorem bit_padLines (p : Pad) (b : BitVec 8) {k : Nat} (hk : k < 4) : bit (padLines p b) k
    = !((!p.selDirection && bit b k) || (!p.selAction && bit b (k + 4))) := by
  have hnot (x y : BitVec 4) : bit (~~~(x ||| y)) k = !(bit x k || bit y k) := by simp [bit, hk]
  have hgroup (sel : Bool) (x : BitVec 4) : bit (if sel then 0 else x) k = (!sel && bit x k) := by
    cases sel <;> simp [bit]
  have hlow : bit (b.setWidth 4) k = bit b k := by simp [bit, hk]
  have hhigh : bit ((b >>> 4).setWidth 4) k = bit b (k + 4) := by simp [bit, hk, Nat.add_comm]
  rw [padLines, hnot, hgroup, hgroup, hlow, hhigh]

/-- A line went from 1 to 0 exactly when one of the four did. -/
theorem edge_eq_any : ∀ x y : BitVec 4, (x &&& ~~~y != 0) = (List.range 4).any (fun k => bit x k && !bit y k) := by
  decide

/-- `JoypadEdge` (R449). -/
theorem joypadEdge_edge (s : State) : ∃ lines : BitVec 4,
    (∀ k, k < 4 → bit lines k
      = !((!s.pad.selDirection && bit s.inputs.buttons k) || (!s.pad.selAction && bit s.inputs.buttons (k + 4))))
      ∧ (joypadEdge s).pad = { s.pad with joyPrev := lines }
      ∧ (joypadEdge s).irq = (if (List.range 4).any (fun k => bit s.pad.joyPrev k && !bit lines k) = true
          then { s.irq with flags := s.irq.flags ||| 16 } else s.irq) :=
  ⟨padLines s.pad s.inputs.buttons, fun _ => bit_padLines _ _, rfl, by rw [← edge_eq_any]; rfl⟩

/-- Settles O52: both the write and the buttons end in `JoypadEdge`. -/
theorem joypadEdge_byWriteAndButtons : Obligations.JoypadEdge := by
  intro s v b edge t
  have ht : t = writeP1 s v := memWrite_offset 0x00 rfl (by decide)
  refine ⟨?_, ?_, fun hscript => ?_⟩
  · rw [ht]
    exact joypadEdge_edge { s with pad := { s.pad with selAction := bit v 5, selDirection := bit v 4 } }
  · rw [ht]; rfl
  · intro u
    have hu : u = { joypadEdge { s with inputs := { s.inputs with buttons := b } } with
        inputs := { s.inputs with buttons := b, script := [] } } := by
      show hostPhase s = _
      rw [hostPhase, hscript]
      rfl
    refine ⟨?_, ?_⟩
    · rw [hu]
      exact joypadEdge_edge { s with inputs := { s.inputs with buttons := b } }
    · rw [hu]; rfl

end pad

end Sys2Proof.Machine


/-! # The Bank Controller (20_memory.md R68, R70, R94 to R103) -/

namespace Sys2Proof.Machine

/-! ## Fields of the byte written, in integers -/

section fields
variable (v : Byte)

theorem setWidth_eq_ofNat (w : Nat) : v.setWidth w = BitVec.ofNat w v.toNat := by
  refine BitVec.eq_of_toNat_eq ?_
  rw [BitVec.toNat_setWidth, BitVec.toNat_ofNat]

/-- Bank 1 is substituted for 0 (R94). -/
theorem noBank0_ofNat {w k : Nat} (hk : k < 2 ^ w) :
    noBank0 (BitVec.ofNat w k) = BitVec.ofNat w (if k = 0 then 1 else k) := by
  have hzero : BitVec.ofNat w k = 0 ↔ k = 0 := by
    rw [BitVec.toNat_eq, BitVec.toNat_ofNat, Nat.mod_eq_of_lt hk]
    exact Iff.rfl
  unfold noBank0
  by_cases h : k = 0
  · rw [if_pos (hzero.mpr h), if_pos h]; rfl
  · rw [if_neg (mt hzero.mp h), if_neg h]

theorem noBank0_five : noBank0 (v.setWidth 5) = BitVec.ofNat 5 (if v.toNat % 32 = 0 then 1 else v.toNat % 32) := by
  have h : v.setWidth 5 = BitVec.ofNat 5 (v.toNat % 32) := by bv_omega
  rw [h, noBank0_ofNat (w := 5) (k := v.toNat % 32) (Nat.mod_lt _ (by decide))]

theorem noBank0_seven :
    noBank0 ((v.setWidth 7).setWidth 9) = BitVec.ofNat 9 (if v.toNat % 128 = 0 then 1 else v.toNat % 128) := by
  have h : (v.setWidth 7).setWidth 9 = BitVec.ofNat 9 (v.toNat % 128) := by bv_omega
  rw [h, noBank0_ofNat (lt_trans (Nat.mod_lt _ (by decide)) (by decide : 128 < 2 ^ 9))]

theorem enableValue_eq : enableValue v = decide (v.toNat % 16 = 0xA) := by
  rw [enableValue, beq_eq_decide_toNat, low_nibble_toNat]
  rfl

theorem bit_zero_eq : bit v 0 = decide (v.toNat % 2 = 1) := by simp [bit, BitVec.getLsbD, Nat.testBit_zero]

/-- The low byte of a nine-bit bank number replaced (R100). -/
theorem bankLow_eq (b : BitVec 9) : (b &&& 0x100) ||| v.setWidth 9 = BitVec.ofNat 9 (b.toNat / 256 * 256 + v.toNat) := by
  have hb := b.isLt
  have hv := v.isLt
  have hhigh : (b &&& (0x100 : BitVec 9)).toNat = 2 ^ 8 * (b.toNat / 256) := by
    refine (Nat.and_two_pow b.toNat 8).trans ?_
    rw [Nat.testBit_eq_decide_div_mod_eq]
    by_cases h : b.toNat / 2 ^ 8 % 2 = 1
    · rw [decide_eq_true h, Bool.toNat_true]; omega
    · rw [decide_eq_false h, Bool.toNat_false]; omega
  have hlow : (v.setWidth 9).toNat = v.toNat := by
    rw [BitVec.toNat_setWidth]
    exact Nat.mod_eq_of_lt (by omega)
  refine BitVec.eq_of_toNat_eq ?_
  rw [BitVec.toNat_or, hhigh, hlow, ← Nat.two_pow_add_eq_or_of_lt hv, BitVec.toNat_ofNat]
  omega

/-- The high bit of a nine-bit bank number replaced (R100). -/
theorem bankHigh_eq (b : BitVec 9) : (b &&& 0x0FF) ||| ((v.setWidth 1).setWidth 9 <<< 8)
    = BitVec.ofNat 9 (v.toNat % 2 * 256 + b.toNat % 256) := by
  have hlow : (b &&& (0x0FF : BitVec 9)).toNat = b.toNat % 256 := Nat.and_two_pow_sub_one_eq_mod b.toNat 8
  have hhigh : ((v.setWidth 1).setWidth 9 <<< 8).toNat = 2 ^ 8 * (v.toNat % 2) := by
    rw [BitVec.toNat_shiftLeft, BitVec.toNat_setWidth, BitVec.toNat_setWidth, Nat.shiftLeft_eq]
    omega
  refine BitVec.eq_of_toNat_eq ?_
  show ((b &&& (0x0FF : BitVec 9)) ||| ((v.setWidth 1).setWidth 9 <<< 8)).toNat = _
  rw [BitVec.toNat_or, hlow, hhigh, Nat.or_comm, ← Nat.two_pow_add_eq_or_of_lt (by omega), BitVec.toNat_ofNat]
  omega

end fields

/-! ## The register writes (R94 to R101) -/

section writes
variable {s : State} {a : Word} {v : Byte} {d : Cart}

/-- Above the enable range a write reaches the family's registers. -/
theorem memWrite_banks (hlo : 0x2000 ≤ a.toNat) (hhi : a.toNat < 0x8000) (hd : s.cart.writeBanks s.cfg a.toNat v = d) :
    memWrite s a v = { s with cart := d } := by
  rw [memWrite_controller hhi, writeController, Cart.write, if_neg (Nat.not_lt.mpr hlo), hd]

theorem memWrite_enable (hhi : a.toNat < 0x2000) (hfam : s.cfg.family ≠ .none) :
    memWrite s a v = { s with cart := { s.cart with ramEnable := decide (v.toNat % 16 = 0xA) } } := by
  rw [memWrite_controller (by omega), writeController, Cart.write, if_pos hhi, ← enableValue_eq]
  cases h : s.cfg.family
  case none => exact absurd h hfam
  all_goals rfl

theorem memWrite_none (hhi : a.toNat < 0x8000) (hfam : s.cfg.family = .none) : memWrite s a v = { s with cart := s.cart } := by
  rw [memWrite_controller hhi, writeController, Cart.write, Cart.writeBanks, hfam]
  split <;> rfl

end writes

/-! ## The external window (R70, R95 to R102) -/

section window
variable {s : State} {a : Word} {v : Byte} {k : Nat}

theorem handler_external (hlo : 0xA000 ≤ a.toNat) (hhi : a.toNat < 0xC000) : handler s a = extHandler s (a.toNat - 0xA000) := by
  rw [handler_of_ge (by omega), highHandler, if_neg (by omega), if_pos hhi]

/-- The two uses of an address of the external window that reaches nothing (R70). -/
theorem window_nothing (hlo : 0xA000 ≤ a.toNat) (hhi : a.toNat < 0xC000) (h : s.cart.extWindow s.cfg = .nothing) :
    memRead s a = 0xFF ∧ memWrite s a v = s := by
  have hq : handler s a = .unmapped := by rw [handler_external hlo hhi, extHandler, h]
  exact ⟨by rw [memRead, hq]; rfl, memWrite_unmapped hq⟩

/-- A RAM bank of the window, reduced to the size of the image; without RAM the window reaches nothing (R102). -/
theorem window_ram (hlo : 0xA000 ≤ a.toNat) (hhi : a.toNat < 0xC000) (h : s.cart.extWindow s.cfg = ramWindow s.cfg k) :
    let j := k % s.cfg.ramBanks * 0x2000 + (a.toNat - 0xA000)
    if s.cfg.ramBanks = 0 then memRead s a = 0xFF ∧ memWrite s a v = s
    else memRead s a = s.store.extRam.read j
      ∧ memWrite s a v = { s with store := { s.store with extRam := s.store.extRam.write j v } } := by
  intro j
  by_cases hz : s.cfg.ramBanks = 0
  · rw [if_pos hz]
    exact window_nothing hlo hhi (h.trans (if_neg (by omega)))
  · rw [if_neg hz]
    have hwindow : s.cart.extWindow s.cfg = .ram (k % s.cfg.ramBanks) := h.trans (if_pos (by omega))
    have hq : handler s a = .extRam j := by rw [handler_external hlo hhi, extHandler, hwindow]
    exact ⟨by rw [memRead, hq]; rfl, memWrite_extRam hq⟩

theorem rtcRead_eq_getD (r : Rtc) (hk : k < 5) : r.read k = r.bytes.getD k 0 := by interval_cases k <;> rfl

theorem rtcWrite_bytes (r : Rtc) (v : Byte) (hk : k < 5) : (r.write k v).bytes = r.bytes.set k v := by
  interval_cases k <;> rfl

/-- A clock register of the window: a read of the latched copy, a write of both (R99). -/
theorem window_clock (hlo : 0xA000 ≤ a.toNat) (hhi : a.toNat < 0xC000) (h : s.cart.extWindow s.cfg = .clock k) :
    memRead s a = s.cart.rtcLatched.bytes.getD k 0
      ∧ ∃ live latched : Rtc,
        memWrite s a v = { s with cart := { s.cart with rtcLive := live, rtcLatched := latched } }
          ∧ live.bytes = s.cart.rtcLive.bytes.set k v ∧ latched.bytes = s.cart.rtcLatched.bytes.set k v := by
  have hk := extWindow_clock h
  have hq : handler s a = .rtc k := by rw [handler_external hlo hhi, extHandler, h]
  exact ⟨by rw [memRead, hq]; exact rtcRead_eq_getD _ hk, s.cart.rtcLive.write k v, s.cart.rtcLatched.write k v,
    by rw [memWrite, hq]; rfl, rtcWrite_bytes _ v hk, rtcWrite_bytes _ v hk⟩

end window

theorem memRead_bankN {s : State} {a : Word} (hlo : 0x4000 ≤ a.toNat) (hhi : a.toNat < 0x8000)
    (hboot : s.router.bootMapped = false) : memRead s a
      = s.store.rom.read (s.cart.bankN s.cfg % s.cfg.romBanks * 0x4000 + (a.toNat - 0x4000)) := by
  have hoverlay : overlayAt s a.toNat = false := by rw [overlayAt, hboot]; rfl
  rw [memRead, handler_of_lt hhi, romHandler, hoverlay, if_neg Bool.false_ne_true, if_neg (Nat.not_lt.mpr hlo)]
  rfl

/-- Settles O41, family by family: a write below 0x8000 is `Cart.write`, and an address of the external window is what
`Cart.extWindow` names. -/
theorem bankSelect : Obligations.BankSelect := by
  intro s a v n c nonzero sets banks fills ram clock
  have hsets {lo hi : Nat} {d : Cart} (h2 : 0x2000 ≤ lo) (h8 : hi ≤ 0x8000)
      (hd : lo ≤ a.toNat → a.toNat < hi → c.writeBanks s.cfg a.toNat v = d) : sets lo hi d :=
    fun hlo hhi => memWrite_banks (h2.trans hlo) (hhi.trans_le h8) (hd hlo hhi)
  have hfills (hlo : 0xA000 ≤ a.toNat) (hhi : a.toNat < 0xC000) (h : c.extWindow s.cfg = .nothing) : fills :=
    window_nothing hlo hhi h
  have hram {k : Nat} (hlo : 0xA000 ≤ a.toNat) (hhi : a.toNat < 0xC000) (h : c.extWindow s.cfg = ramWindow s.cfg k) :
      ram k := window_ram hlo hhi h
  refine ⟨fun hfam => ⟨?_, fun _ hhi => memWrite_none hhi hfam⟩, fun hfam _ hhi => memWrite_enable hhi hfam,
    fun hfam => ?simple, fun hfam => ?rtc, fun hfam => ?wide9, fun hfam => ?multicart,
    fun hlo hhi hboot => memRead_bankN hlo hhi hboot, fun hlo hhi => ⟨fun hfam => ?_, fun hfam hoff => ?_, fun hon => ?_⟩⟩
  case simple =>
    refine ⟨?_, hsets (by decide) (by decide) fun h1 h2 => ?_, hsets (by decide) (by decide) fun h1 h2 => ?_,
      hsets (by decide) (by decide) fun h1 h2 => ?_⟩
    · exact ⟨by rw [Cart.bank0, hfam], by rw [Cart.bankN, hfam]⟩
    all_goals rw [Cart.writeBanks, hfam]; dsimp only; rw [Cart.writeSimple]
    · rw [if_pos h2, noBank0_five]
    · rw [if_neg (by omega), if_pos h2, setWidth_eq_ofNat]
    · rw [if_neg (by omega), if_neg (by omega), bit_zero_eq]
  case rtc =>
    refine ⟨?_, hsets (by decide) (by decide) fun h1 h2 => ?_, hsets (by decide) (by decide) fun h1 h2 => ?_,
      hsets (by decide) (by decide) fun h1 h2 => ?_⟩
    · exact ⟨by rw [Cart.bank0, hfam], by rw [Cart.bankN, hfam]⟩
    all_goals rw [Cart.writeBanks, hfam]; dsimp only; rw [Cart.writeRtc]
    · rw [if_pos h2, noBank0_seven]
    · rw [if_neg (by omega), if_pos h2, Cart.writeSelect, low_nibble_toNat, setWidth_eq_ofNat]
    · have hone : v = 1 ↔ n = 1 := BitVec.toNat_eq
      rw [if_neg (by omega), if_neg (by omega), Cart.writeLatch, if_congr (and_congr_right fun _ => hone) rfl rfl]
  case wide9 =>
    refine ⟨?_, hsets (by decide) (by decide) fun h1 h2 => ?_, hsets (by decide) (by decide) fun h1 h2 => ?_,
      hsets (by decide) (by decide) fun h1 h2 => ?_⟩
    · have hzero : c.romBank = 0 ↔ c.romBank.toNat = 0 := BitVec.toNat_eq
      exact ⟨by rw [Cart.bank0, hfam], by rw [Cart.bankN, hfam]; exact if_congr hzero rfl rfl⟩
    all_goals rw [Cart.writeBanks, hfam]; dsimp only; rw [Cart.writeWide9]
    · rw [if_pos h2, bankLow_eq]
    · rw [if_neg (by omega), if_pos h2, bankHigh_eq]
    · rw [if_neg (by omega), if_neg (by omega), if_pos h2, setWidth_eq_ofNat]
  case multicart =>
    intro outer
    refine ⟨?_, hsets (by decide) (by decide) fun h1 h2 => ?_, hsets (by decide) (by decide) fun h1 h2 => ?_,
      hsets (by decide) (by decide) fun h1 h2 => ?_⟩
    · exact ⟨by rw [Cart.bank0, hfam], by rw [Cart.bankN, hfam]⟩
    all_goals rw [Cart.writeBanks, hfam]; dsimp only; rw [Cart.writeMulticart]
    · rw [if_pos h2, noBank0_five]
    · rw [if_neg (by omega), if_pos h2, setWidth_eq_ofNat]
    · rw [if_neg (by omega), if_neg (by omega), bit_zero_eq]
  case refine_1 => exact ⟨by rw [Cart.bank0, hfam], by rw [Cart.bankN, hfam]⟩
  case refine_2 =>
    by_cases hone : s.cfg.ramBanks = 1
    · rw [if_pos hone]
      have hwindow : c.extWindow s.cfg = .ram 0 := by
        rw [Cart.extWindow, hfam]
        exact if_pos hone
      refine hram hlo hhi (hwindow.trans ?_)
      rw [ramWindow, hone]
      rfl
    · rw [if_neg hone]
      refine hfills hlo hhi ?_
      rw [Cart.extWindow, hfam]
      exact if_neg hone
  case refine_3 =>
    refine hfills hlo hhi ?_
    rw [Cart.extWindow, hoff]
    cases h : s.cfg.family
    case none => exact absurd h hfam
    all_goals rfl
  case refine_4 =>
    refine ⟨fun hfam => ?_, fun hfam => ?_, fun hfam => ?_, fun hfam => ?_⟩
    · refine hram hlo hhi ?_
      rw [Cart.extWindow, hfam, hon]
      rfl
    · have hwindow : c.extWindow s.cfg = if c.rtcSelect.toNat ≤ 3 then ramWindow s.cfg c.ramBank.toNat
          else if 8 ≤ c.rtcSelect.toNat ∧ c.rtcSelect.toNat ≤ 12 then .clock (c.rtcSelect.toNat - 8) else .nothing := by
        rw [Cart.extWindow, hfam, hon]
        rfl
      intro k
      by_cases hlow : k ≤ 3
      · rw [if_pos hlow]
        exact hram hlo hhi (hwindow.trans (if_pos hlow))
      rw [if_neg hlow]
      rw [if_neg hlow] at hwindow
      by_cases hclock : 8 ≤ k ∧ k ≤ 12
      · rw [if_pos hclock]
        exact window_clock hlo hhi (hwindow.trans (if_pos hclock))
      · rw [if_neg hclock]
        exact hfills hlo hhi (hwindow.trans (if_neg hclock))
    · refine hram hlo hhi ?_
      rw [Cart.extWindow, hfam, hon]
      rfl
    · refine hram hlo hhi ?_
      rw [Cart.extWindow, hfam, hon]
      rfl

end Sys2Proof.Machine


/-! # The fetch of an instruction (40_execution_engine.md R144, R145; 30_encoding.md R120, R122, R139) -/

namespace Sys2Proof.Machine

/-! ## How many bytes a fetch reads (R120, R139) -/

theorem fetchedBytes_of_ne_stop {i : Instr} (h : i ≠ .stop) : i.fetchedBytes = (encode i).length := by
  unfold Instr.fetchedBytes
  split
  · exact absurd rfl h
  · rfl

/-- The opcode byte and the immediates. -/
theorem fetchedBytes_decodeFirst (op b1 b2 : Byte) :
    (decodeFirst op b1 b2).fetchedBytes = 1 + formatImmediates (formatOf op) := by
  by_cases hpad : formatOf op = .opPad
  · rw [(formatOf_eq_opPad_iff op).mp hpad, decodeFirst_stop]
    rfl
  · rw [fetchedBytes_of_ne_stop fun h => hpad (formatOf_of_decodeFirst_eq_stop h), encode_decodeFirst, formatBytes]
    cases h : formatOf op
    case opPad => exact absurd h hpad
    all_goals rfl

theorem fetchedBytes_decodeSecond (op : Byte) : (decodeSecond op).fetchedBytes = 2 := by
  rw [fetchedBytes_of_ne_stop (decodeSecond_ne_stop op), encode_decodeSecond]
  rfl

/-! ## The fetches, on steady bytes (R63, R140) -/

section fetch
variable {s : State} {n : Nat}

/-- The three bytes from `pc` on do not change by the passage of time. -/
def steadyProgram (s : State) : Prop := ∀ k : Word, k.toNat < 3 → steady s (s.regs.pc + k) = true

/-- The state of a fetch in progress, `n` bytes read: the program's bytes are those of the boundary's state, and `pc` is
past the bytes read. -/
structure Fetching (s u : State) (n : Nat) : Prop where
  kept : Kept s u
  regs : u.regs = { s.regs with pc := s.regs.pc + BitVec.ofNat 16 n }

theorem fetching_opcode (hbug : s.cpu.haltBug = false) : Fetching s (fetchOpcode (movePending s)) 1 := by
  rw [movePending_frame]
  refine ⟨.proc s _ _, ?_⟩
  show { s.regs with pc := if s.cpu.haltBug = true then s.regs.pc else s.regs.pc + 1 } = _
  rw [hbug]
  rfl

theorem fetchOpcode_ir (s : State) : (fetchOpcode (movePending s)).cpu.ir = memRead s s.regs.pc := by
  rw [movePending_frame]
  exact memRead_withProc (x := s.regs) (c := { s.cpu with ime := _, imePending := _ }) ⟨rfl, rfl⟩ _

theorem Fetching.nextCycle {u : State} (h : Fetching s u n) : Fetching s (nextCycle u) n :=
  ⟨h.kept.trans (.nextCycle u), (nextCycle_regs u).trans h.regs⟩

/-- The byte that the next fetch reads. -/
theorem Fetching.byte {u : State} (h : Fetching s u n) (hs : steadyProgram s) (hn : n < 3) :
    memRead u u.regs.pc = memRead s (s.regs.pc + BitVec.ofNat 16 n) := by
  have hk : (BitVec.ofNat 16 n).toNat < 3 := by
    rw [BitVec.toNat_ofNat]
    omega
  rw [h.regs]
  exact h.kept.memRead (hs _ hk)

/-- A fetch that leaves the other registers alone. -/
theorem Fetching.advance {u t : State} (h : Fetching s u n) (hkept : Kept u t)
    (hregs : t.regs = { u.regs with pc := u.regs.pc + 1 }) : Fetching s t (n + 1) := by
  refine ⟨h.kept.trans hkept, ?_⟩
  rw [hregs, h.regs]
  have hpc : s.regs.pc + BitVec.ofNat 16 n + 1 = s.regs.pc + BitVec.ofNat 16 (n + 1) := by
    rw [BitVec.ofNat_add, BitVec.add_assoc]
    rfl
  exact congrArg (fun w => { s.regs with pc := w }) hpc

theorem Fetching.temp8 {u : State} (h : Fetching s u n) : Fetching s (fetchTemp8 u) (n + 1) := h.advance (.proc u _ _) rfl

theorem Fetching.tempLow {u : State} (h : Fetching s u n) : Fetching s (fetchTempLow u) (n + 1) :=
  h.advance (.proc u _ _) rfl

theorem Fetching.tempHigh {u : State} (h : Fetching s u n) : Fetching s (fetchTempHigh u) (n + 1) :=
  h.advance (.proc u _ _) rfl

theorem Fetching.prefixed {u : State} (h : Fetching s u n) : Fetching s (fetchPrefixed u) (n + 1) :=
  h.advance (.proc u _ _) rfl

/-! ## The rest of the fetch, by the number of immediates (R122, R139, R144) -/

theorem withOperandBytes_of_none {op : Byte} (hf : formatImmediates (formatOf op) = 0) (b1 b2 : Byte) (s : State) :
    withOperandBytes op b1 b2 s = s := by
  simp only [withOperandBytes, length_formImmediates_formFirst, hf]

theorem withOperandBytes_of_one {op : Byte} (hf : formatImmediates (formatOf op) = 1) (b1 b2 : Byte) (s : State) :
    withOperandBytes op b1 b2 s = s.withTmp8 b1 := by
  simp only [withOperandBytes, length_formImmediates_formFirst, hf]

theorem withOperandBytes_of_two {op : Byte} (hf : formatImmediates (formatOf op) = 2) (b1 b2 : Byte) (s : State) :
    withOperandBytes op b1 b2 s = s.withTmp16 (join b2 b1) := by
  simp only [withOperandBytes, length_formImmediates_formFirst, hf]

theorem fetchTemp8_tmp8 (u : State) : (fetchTemp8 u).cpu.tmp8 = memRead u u.regs.pc := rfl

/-- The two bytes of an immediate word, in two machine cycles. -/
def fetchWord (u : State) : State := fetchTempHigh (nextCycle (fetchTempLow u))

theorem fetchWord_tmp16 (u : State) :
    (fetchWord u).cpu.tmp16
      = join (memRead (nextCycle (fetchTempLow u)) (nextCycle (fetchTempLow u)).regs.pc) (memRead u u.regs.pc) := by
  have hlow : lowByte (nextCycle (fetchTempLow u)).cpu.tmp16 = memRead u u.regs.pc := by
    rw [nextCycle_cpu]
    exact lowByte_join _ _
  rw [← hlow]
  rfl

/-- What the rest of a fetch does, by the number of immediates. -/
inductive FetchRest (u : State) : State × Instr → Prop
  | none : formatImmediates (formatOf u.cpu.ir) = 0 → formatOf u.cpu.ir ≠ .pre → FetchRest u (u, decodeFirst u.cpu.ir 0 0)
  | one : formatImmediates (formatOf u.cpu.ir) = 1 →
    FetchRest u (fetchTemp8 (nextCycle u), decodeFirst u.cpu.ir (fetchTemp8 (nextCycle u)).cpu.tmp8 0)
  | two : formatOf u.cpu.ir = .opD16 →
    FetchRest u (fetchWord (nextCycle u), decodeFirst u.cpu.ir (lowByte (fetchWord (nextCycle u)).cpu.tmp16)
      (highByte (fetchWord (nextCycle u)).cpu.tmp16))
  | second : formatOf u.cpu.ir = .pre →
    FetchRest u (fetchPrefixed (nextCycle u), decodeSecond (fetchPrefixed (nextCycle u)).cpu.ir)

theorem fetchRest_cases (u : State) : FetchRest u (fetchRest u) := by
  unfold fetchRest
  cases hf : formatOf u.cpu.ir
  case opD16 => exact .two hf
  case pre => exact .second hf
  case opD8 | opE8 => exact .one (by rw [hf]; rfl)
  all_goals exact .none (by rw [hf]; rfl) (by rw [hf]; decide)

/-- The operands of what a fetch decodes are in their temp already. -/
theorem operands_fetchRest (u : State) : operands (fetchRest u).2 (fetchRest u).1 = (fetchRest u).1 := by
  have hcases := fetchRest_cases u
  generalize fetchRest u = r at hcases ⊢
  cases hcases <;> dsimp only
  case none hf _ => rw [operands_decodeFirst, withOperandBytes_of_none hf]
  case one hf =>
    rw [operands_decodeFirst, withOperandBytes_of_one hf]
    rfl
  case two hf =>
    rw [operands_decodeFirst, withOperandBytes_of_two (by rw [hf]; rfl), join_high_low]
    rfl
  case second => exact operands_decodeSecond _ _

/-- The fetch has read the bytes of what it decodes. -/
theorem fetching_fetchRest {u : State} (h : Fetching s u 1) : Fetching s (fetchRest u).1 (fetchRest u).2.fetchedBytes := by
  have hcases := fetchRest_cases u
  generalize fetchRest u = r at hcases ⊢
  cases hcases <;> dsimp only
  case none hf _ => rwa [fetchedBytes_decodeFirst, hf]
  case one hf =>
    rw [fetchedBytes_decodeFirst, hf]
    exact h.nextCycle.temp8
  case two hf =>
    rw [fetchedBytes_decodeFirst, hf]
    exact h.nextCycle.tempLow.nextCycle.tempHigh
  case second =>
    rw [fetchedBytes_decodeSecond]
    exact h.nextCycle.prefixed

/-- The instruction of three bytes, by the format of the first. -/
theorem decode_three {b0 b1 b2 : Byte} {i : Instr} {rest : List Byte} (h : decode [b0, b1, b2] = .instr i rest) :
    (formatImmediates (formatOf b0) = 0 → formatOf b0 ≠ .pre → i = decodeFirst b0 0 0)
      ∧ (formatImmediates (formatOf b0) = 1 → i = decodeFirst b0 b1 0)
      ∧ (formatOf b0 = .opD16 → i = decodeFirst b0 b1 b2) ∧ (formatOf b0 = .pre → i = decodeSecond b1) := by
  cases hf : formatOf b0
  case opPad =>
    have hstop : ∀ b : Byte, decodeFirst b0 b 0 = .stop := fun b => by
      rw [(formatOf_eq_opPad_iff b0).mp hf, decodeFirst_stop]
    simp_all [decode, formatImmediates]
  all_goals simp_all [decode, formatImmediates]

/-- The instruction is the one of the three steady bytes at `pc`. -/
theorem fetchRest_instr {u : State} {i : Instr} {rest : List Byte} (h : Fetching s u 1) (hs : steadyProgram s)
    (hdecode : decode [u.cpu.ir, memRead s (s.regs.pc + 1), memRead s (s.regs.pc + 2)] = .instr i rest) :
    (fetchRest u).2 = i := by
  have hb1 : memRead (nextCycle u) (nextCycle u).regs.pc = memRead s (s.regs.pc + 1) := h.nextCycle.byte hs (by omega)
  have hb2 : memRead (nextCycle (fetchTempLow (nextCycle u))) (nextCycle (fetchTempLow (nextCycle u))).regs.pc
      = memRead s (s.regs.pc + 2) := h.nextCycle.tempLow.nextCycle.byte hs (by omega)
  obtain ⟨hnone, hone, htwo, hsecond⟩ := decode_three hdecode
  have hcases := fetchRest_cases u
  generalize fetchRest u = r at hcases ⊢
  cases hcases with
  | none hf hpre => exact (hnone hf hpre).symm
  | one hf => rw [hone hf, fetchTemp8_tmp8, hb1]
  | two hf => rw [htwo hf, fetchWord_tmp16, lowByte_join, highByte_join, hb1, hb2]
  | second hf =>
    rw [hsecond hf, ← hb1]
    rfl

/-- Settles O7: the bytes fetched are those at `pc`, since they are steady, and each goes where its format says. -/
theorem fetchReadsProgram : Obligations.FetchReadsProgram := by
  intro s i rest hbug hs hdecode
  have h1 := fetching_opcode hbug
  rw [← fetchOpcode_ir] at hdecode
  obtain rfl : (fetchInstr s).2 = i := fetchRest_instr h1 hs hdecode
  exact ⟨rfl, (fetching_fetchRest h1).regs, operands_fetchRest _⟩

end fetch

end Sys2Proof.Machine


/-! # A step is its machine cycles (40_execution_engine.md R140 to R159, 70_reset_and_hazards.md R470) -/

namespace Sys2Proof.Machine

/-! ## The sequencer's own part of the control state (R17, R18, R21) -/

/-- A control state with what the sequencer keeps of an instruction in progress taken from `c`. -/
def Cpu.mark (d c : Cpu) : Cpu :=
  { d with cpuState := c.cpuState, upos := c.upos, useq := c.useq, cpuFault := c.cpuFault }

theorem Cpu.mark_speed (d c : Cpu) : SameSpeed (d.mark c) d := ⟨rfl, rfl⟩

/-- The machine with the sequencer's part taken from `c`. -/
def State.mark (s : State) (c : Cpu) : State := s.withCpu (s.cpu.mark c)

section mark
variable (s : State) (c : Cpu)

@[simp] theorem mark_regs : (s.mark c).regs = s.regs := rfl
@[simp] theorem mark_tmp8 : (s.mark c).cpu.tmp8 = s.cpu.tmp8 := rfl
@[simp] theorem mark_tmp16 : (s.mark c).cpu.tmp16 = s.cpu.tmp16 := rfl
@[simp] theorem mark_withRegs (x : Regs) : (s.mark c).withRegs x = (s.withRegs x).mark c := rfl
@[simp] theorem mark_setReg (r : Reg8) (v : Byte) : (s.mark c).setReg r v = (s.setReg r v).mark c := rfl
@[simp] theorem mark_setHl (v : Word) : (s.mark c).setHl v = (s.setHl v).mark c := rfl
@[simp] theorem mark_setSp (v : Word) : (s.mark c).setSp v = (s.setSp v).mark c := rfl
@[simp] theorem mark_setPc (v : Word) : (s.mark c).setPc v = (s.setPc v).mark c := rfl
@[simp] theorem mark_withFlags (q : Flagged) : (s.mark c).withFlags q = (s.withFlags q).mark c := rfl
@[simp] theorem mark_withTmp8 (v : Byte) : (s.mark c).withTmp8 v = (s.withTmp8 v).mark c := rfl
@[simp] theorem mark_withTmp16 (v : Word) : (s.mark c).withTmp16 v = (s.withTmp16 v).mark c := rfl

theorem mark_self : s.mark s.cpu = s := rfl

@[simp] theorem memRead_mark (a : Word) : memRead (s.mark c) a = memRead s a :=
  memRead_withProc (s := s) (x := s.regs) ⟨rfl, rfl⟩ a

@[simp] theorem memWrite_mark (a : Word) (v : Byte) : memWrite (s.mark c) a v = (memWrite s a v).mark c := by
  refine (memWrite_withCpu (s.cpu.mark_speed c) a v).trans ?_
  unfold State.mark
  conv_rhs => rw [memWrite_cpu]
  rfl

theorem endTick_mark : endTick (s.mark c) = (endTick s).mark c := endTick_withProc (s := s) (x := s.regs) ⟨rfl, rfl⟩

theorem tickHead_mark : tickHead (s.mark c) = (tickHead s).mark c := by
  refine (tickHead_withProc (x := s.regs) (s.cpu.mark_speed c)).trans ?_
  rw [State.mark, tickHead_cpu, ← tickHead_regs]
  rfl

end mark

/-! ## Primitives that do not read it (R147) -/

/-- A change of the machine that neither reads nor writes the sequencer's part. -/
structure Plain (f : State → State) : Prop where
  mark : ∀ s c, f (s.mark c) = (f s).mark c
  cfg : ∀ s, (f s).cfg = s.cfg

/-- Such a primitive. -/
structure PlainMicro (m : Micro) : Prop where
  act : Plain m.act
  stops : ∀ s c, m.stops (s.mark c) = m.stops s

/-- A sequence of them. -/
def AllPlain (l : List Micro) : Prop := ∀ m ∈ l, PlainMicro m

section plain
variable {f g : State → State} {l l' : List Micro} {m : Micro} {cc : Cond}

theorem Plain.comp (hg : Plain g) (hf : Plain f) : Plain fun s => g (f s) :=
  ⟨fun s c => by rw [hf.mark, hg.mark], fun s => by rw [hg.cfg, hf.cfg]⟩

theorem plain_id : Plain id := ⟨fun _ _ => rfl, fun _ => rfl⟩

/-- A change of the registers, computed from them and from the temps. -/
theorem plain_withRegs {x : State → Regs} (hx : ∀ s c, x (s.mark c) = x s) : Plain fun s => s.withRegs (x s) :=
  ⟨fun s c => by rw [hx]; rfl, fun _ => rfl⟩

theorem plain_withTmp8 {v : State → Byte} (hv : ∀ s c, v (s.mark c) = v s) : Plain fun s => s.withTmp8 (v s) :=
  ⟨fun s c => by rw [hv]; rfl, fun _ => rfl⟩

theorem plain_memWrite {a : State → Word} {v : State → Byte} (ha : ∀ s c, a (s.mark c) = a s)
    (hv : ∀ s c, v (s.mark c) = v s) : Plain fun s => memWrite s (a s) (v s) :=
  ⟨fun s c => by rw [ha, hv, memWrite_mark], fun s => memWrite_cfg s _ _⟩

theorem plain_readTemp {a : State → Word} (ha : ∀ s c, a (s.mark c) = a s) : Plain fun s => readTemp s (a s) :=
  plain_withTmp8 fun s c => by rw [ha, memRead_mark]

theorem plain_loadInto (r : Reg8) {a : State → Word} (ha : ∀ s c, a (s.mark c) = a s) : Plain fun s => loadInto r (a s) s :=
  (plain_withRegs (x := fun s => s.regs.set r s.cpu.tmp8) fun _ _ => rfl).comp (plain_readTemp ha)

theorem plain_aluTemp (o : AluOp) : Plain (aluTemp o) := plain_withRegs fun _ _ => rfl

theorem plain_pushByte {v : State → Byte} (hv : ∀ s c, v (s.mark c) = v s) : Plain fun s => pushByte s (v s) :=
  ⟨fun s c => by simp [pushByte, hv], fun s => by simp [pushByte]⟩

theorem plain_popLow : Plain popLow := ⟨fun s c => by simp [popLow], fun _ => rfl⟩

theorem plain_popHigh : Plain popHigh := ⟨fun s c => by simp [popHigh], fun _ => rfl⟩

theorem plain_jumpTemp : Plain jumpTemp := ⟨fun _ _ => rfl, fun _ => rfl⟩

theorem plain_pushAndJump {t : State → Word} (ht : ∀ s c, t (s.mark c) = t s) : Plain fun s => pushAndJump s (t s) := by
  have hpush : Plain pushPcLow := plain_pushByte fun _ _ => rfl
  exact ⟨fun s c => by rw [pushAndJump, hpush.mark, ht]; rfl, hpush.cfg⟩

theorem plain_fetchTemp8 : Plain fetchTemp8 := ⟨fun s c => by simp [fetchTemp8, fetch8], fun _ => rfl⟩

theorem plain_fetchTempLow : Plain fetchTempLow := ⟨fun s c => by simp [fetchTempLow, fetch8], fun _ => rfl⟩

theorem plain_fetchTempHigh : Plain fetchTempHigh := ⟨fun s c => by simp [fetchTempHigh, fetch8], fun _ => rfl⟩

theorem AllPlain.nil : AllPlain [] := fun _ h => nomatch h

theorem AllPlain.cons (hf : Plain f) (hl : AllPlain l) : AllPlain (Micro.of f :: l) :=
  List.forall_mem_cons.mpr ⟨⟨hf, fun _ _ => rfl⟩, hl⟩

theorem AllPlain.one (hf : Plain f) : AllPlain [Micro.of f] := .cons hf .nil

theorem AllPlain.idle (hl : AllPlain l) : AllPlain (Micro.idle :: l) := .cons plain_id hl

theorem AllPlain.unless (hl : AllPlain l) : AllPlain (Micro.unless id cc :: l) :=
  List.forall_mem_cons.mpr ⟨⟨plain_id, fun _ _ => rfl⟩, hl⟩

theorem AllPlain.append (hl : AllPlain l) (hl' : AllPlain l') : AllPlain (l ++ l') := fun m hm =>
  (List.mem_append.mp hm).elim (hl m) (hl' m)

theorem plain_callCycles : AllPlain callCycles :=
  .idle (.cons (plain_pushByte fun _ _ => rfl) (.one (plain_pushAndJump fun _ _ => rfl)))

theorem plain_popPcCycles : AllPlain popPcCycles := .cons plain_popLow (.cons plain_popHigh (.one plain_jumpTemp))

/-- A write back at the address read. -/
theorem plain_readModifyWrite (hf : Plain f) :
    AllPlain [Micro.idle, Micro.of fun s => readTemp s s.regs.hl, Micro.of f] :=
  .idle (.cons (plain_readTemp fun _ _ => rfl) (.one hf))

/-- `HALT` and `STOP` alone write the sequencer's part. -/
theorem plain_formSeq {f : Form} (hhalt : f ≠ .halt) (hstop : f ≠ .stop) : AllPlain (formSeq f) := by
  cases f
  case halt => exact absurd rfl hhalt
  case stop => exact absurd rfl hstop
  case prefixCb | undefined => exact .nil
  case nop => exact .one plain_id
  case di | ei => exact .one ⟨fun _ _ => rfl, fun _ => rfl⟩
  case ldRR | ldRN | ldRrNn | aluR | aluN | incR | decR | daa | cpl | scf | ccf | rlca | rrca | rla | rra | rotR | bitR
      | resR | setR | jpHl =>
    exact .one (plain_withRegs fun _ _ => rfl)
  case ldRHl | ldABc | ldADe | ldANn | ldhAC | ldhAN => exact .idle (.one (plain_loadInto _ fun _ _ => rfl))
  case ldHlR | ldHlN | ldBcA | ldDeA | ldNnA | ldhCA | ldhNA =>
    exact .idle (.one (plain_memWrite (fun _ _ => rfl) fun _ _ => rfl))
  case ldAHld | ldAHli => exact .idle (.one ⟨fun s c => by simp [readTemp], fun _ => rfl⟩)
  case ldHldA | ldHliA => exact .idle (.one ⟨fun s c => by simp, fun s => memWrite_cfg s _ _⟩)
  case ldNnSp =>
    exact .idle (.cons (plain_memWrite (fun _ _ => rfl) fun _ _ => rfl)
      (.one (plain_memWrite (fun _ _ => rfl) fun _ _ => rfl)))
  case push =>
    exact .idle (.idle (.cons (plain_pushByte fun _ _ => rfl) (.one (plain_pushByte fun _ _ => rfl))))
  case pop p =>
    exact .idle (.cons plain_popLow (.one
      ((plain_withRegs (x := fun s => s.regs.setStackPair p s.cpu.tmp16) fun _ _ => rfl).comp plain_popHigh)))
  case ldSpHl | ldHlSpE | addHlRr | incRr | decRr | jrE => exact .idle (.one (plain_withRegs fun _ _ => rfl))
  case aluHl o => exact .idle (.one ((plain_aluTemp o).comp (plain_readTemp fun _ _ => rfl)))
  case bitHl k =>
    exact .idle (.one ((plain_withRegs (x := fun s => s.regs.testBit k s.cpu.tmp8) fun _ _ => rfl).comp
      (plain_readTemp fun _ _ => rfl)))
  case addSpE => exact .idle (.idle (.one (plain_withRegs fun _ _ => rfl)))
  case incHl | decHl | rotHl => exact plain_readModifyWrite ⟨fun s c => by simp, fun s => memWrite_cfg s _ _⟩
  case resHl | setHl => exact plain_readModifyWrite (plain_memWrite (fun _ _ => rfl) fun _ _ => rfl)
  case jpNn => exact .idle (.one plain_jumpTemp)
  case jpCcNn => exact .unless (.one plain_jumpTemp)
  case jrCcE => exact .unless (.one (plain_withRegs fun _ _ => rfl))
  case callNn => exact .idle plain_callCycles
  case callCcNn => exact .unless plain_callCycles
  case ret => exact .idle plain_popPcCycles
  case retCc => exact .idle (.unless plain_popPcCycles)
  case reti => exact .idle (.cons plain_popLow (.cons plain_popHigh (.one ⟨fun _ _ => rfl, fun _ => rfl⟩)))
  case rst =>
    exact .idle (.idle (.cons (plain_pushByte fun _ _ => rfl) (.one (plain_pushAndJump fun _ _ => rfl))))

theorem plain_joinFetch (hf : Plain f) (hl : AllPlain l) : AllPlain (joinFetches [Micro.of f] l) := by
  cases l with
  | nil => exact .one hf
  | cons b rest =>
    obtain ⟨hb, hrest⟩ := List.forall_mem_cons.mp hl
    have hmerge : PlainMicro ((Micro.of f).merge b) :=
⟨hb.act.comp hf, hb.stops⟩
    exact List.forall_mem_cons.mpr ⟨hmerge, hrest⟩

theorem plain_formPrimitives {f : Form} (hhalt : f ≠ .halt) (hstop : f ≠ .stop) : AllPlain (formPrimitives f) := by
  have hseq := plain_formSeq hhalt hstop
  unfold formPrimitives
  obtain h | h | h := formImmediates_cases f <;> rw [h]
  · exact hseq
  · exact .idle (plain_joinFetch plain_fetchTemp8 hseq)
  · exact .idle (.cons plain_fetchTempLow (plain_joinFetch plain_fetchTempHigh hseq))

end plain

end Sys2Proof.Machine


/-! # The ticks of a step (40_execution_engine.md R140 to R159, 70_reset_and_hazards.md R470) -/

namespace Sys2Proof.Machine

/-! ## How many machine cycles a sequence takes (R142, R148, R470) -/

/-- The machine cycles that `runRest` takes. -/
def runLength : List Micro → State → Nat
  | [], _ => 0
  | m :: rest, s => if m.stops (m.act (nextCycle s)) then 1 else runLength rest (m.act (nextCycle s)) + 1

/-- The machine cycles that `runSeq` takes after the one it shares with the last fetch. -/
def restLength : List Micro → State → Nat
  | [], _ => 0
  | m :: rest, s => if m.stops (m.act s) then 0 else runLength rest (m.act s)

/-- The forms of the second table (R131). -/
def isSecond (f : Form) : Bool :=
  match f with
  | .rotR _ _ | .rotHl _ | .bitR _ _ | .bitHl _ | .resR _ _ | .resHl _ | .setR _ _ | .setHl _ => true
  | _ => false

section length
variable {cc : Cond} {rest : List Micro} {s : State}

theorem isSecond_formFirst (op : Byte) : isSecond (formFirst op) = false := by revert op; decide +kernel

theorem isSecond_formSecond (op : Byte) : isSecond (formSecond op) = true := by revert op; decide +kernel

theorem holds_congr {x y : Regs} (h : x.f = y.f) (cc : Cond) : x.holds cc = y.holds cc := by
  cases cc <;> simp [Regs.holds, Regs.flagZ, Regs.flagC, h]

theorem runLength_unless : runLength (Micro.unless id cc :: rest) s
    = if s.regs.holds cc then runLength rest (nextCycle s) + 1 else 1 := by
  rw [runLength]
  simp only [Micro.unless, id, nextCycle_regs]
  by_cases h : s.regs.holds cc = true <;> simp [h]

/-- A test in the cycle of the last fetch, which changes no flag. -/
theorem runLength_fetchUnless {g : State → State} (hg : ∀ s, (g s).regs.f = s.regs.f) :
    runLength ((Micro.of g).merge (Micro.unless id cc) :: rest) s
      = if s.regs.holds cc then runLength rest (g (nextCycle s)) + 1 else 1 := by
  have hflags : (g (nextCycle s)).regs.holds cc = s.regs.holds cc :=
    holds_congr ((hg _).trans (congrArg Regs.f (nextCycle_regs s))) cc
  rw [runLength]
  simp only [Micro.merge, Micro.of, Micro.unless, id, hflags]
  by_cases h : s.regs.holds cc = true <;> simp [h]

theorem runLength_of (g : State → State) : runLength (Micro.of g :: rest) s = runLength rest (g (nextCycle s)) + 1 := rfl

/-- The table of cycles is the number of primitives run, after the opcode fetch of the first table or the two of the
second; a condition is tested by the flags the instruction began with. -/
theorem cycles_eq {f : Form} {x : Regs} (s : State) (hx : x.f = s.regs.f) :
    f.cycles x = restLength (formPrimitives f) s + (if isSecond f then 2 else 1) := by
  have hc := holds_congr hx
  have hlow := holds_congr (hx.trans (congrArg Regs.f (nextCycle_regs s)).symm : x.f = (fetchTempLow (nextCycle s)).regs.f)
  cases f
  case jrCcE cc =>
    show _ = runLength ((Micro.of fetchTemp8).merge (.unless id cc) :: [Micro.of jumpRelative]) s + 1
    rw [runLength_fetchUnless (g := fetchTemp8) fun _ => rfl, ← hc, Form.cycles]
    split <;> rfl
  case jpCcNn cc =>
    show _ = runLength (Micro.of fetchTempLow :: (Micro.of fetchTempHigh).merge (.unless id cc)
      :: [Micro.of jumpTemp]) s + 1
    rw [runLength_of, runLength_fetchUnless (g := fetchTempHigh) fun _ => rfl, ← hlow, Form.cycles]
    split <;> rfl
  case callCcNn cc =>
    show _ = runLength (Micro.of fetchTempLow :: (Micro.of fetchTempHigh).merge (.unless id cc) :: callCycles) s + 1
    rw [runLength_of, runLength_fetchUnless (g := fetchTempHigh) fun _ => rfl, ← hlow, Form.cycles]
    split <;> rfl
  case retCc cc =>
    show _ = runLength (Micro.unless id cc :: popPcCycles) s + 1
    rw [runLength_unless, ← hc, Form.cycles]
    split <;> rfl
  all_goals rfl

end length

/-! ## An instruction in progress (R142, R143, R159) -/

/-- The control state between two primitives of an instruction, `k` of them done. -/
def Cpu.at (c : Cpu) (k : Nat) : Cpu := { c with cpuState := .executingPrimitiveSequence, upos := k }

/-- The machine between two primitives of an instruction. -/
def State.at (s : State) (k : Nat) : State := s.mark (s.cpu.at k)

/-- On `DMG`, without a fault, with the sequencer's part as it is at a boundary, or in an interrupt entry. -/
structure Resting (s : State) (q : CpuState) (w : BitVec 9) : Prop where
  dmg : s.cfg.rev = .dmg
  fault : s.cpu.cpuFault = false
  state : s.cpu.cpuState = q
  upos : s.cpu.upos = 0
  useq : s.cpu.useq = w

section progress
variable {s : State} {q : CpuState} {w : BitVec 9} {f : Form} {m : Micro} {rest : List Micro} {k : Nat}

/-- What neither reads nor writes the sequencer's part keeps it. -/
theorem Plain.keeps_mark {g : State → State} (hg : Plain g) (s : State) : (g s).cpu = (g s).cpu.mark s.cpu := by
  have h := hg.mark s s.cpu
  rw [mark_self] at h
  exact congrArg State.cpu h

theorem Resting.plain {g : State → State} (h : Resting s q w) (hg : Plain g) : Resting (g s) q w := by
  have hk := hg.keeps_mark s
  exact ⟨(congrArg Config.rev (hg.cfg s)).trans h.dmg, (congrArg Cpu.cpuFault hk).trans h.fault,
    (congrArg Cpu.cpuState hk).trans h.state, (congrArg Cpu.upos hk).trans h.upos, (congrArg Cpu.useq hk).trans h.useq⟩

theorem Resting.nextCycle (h : Resting s q w) : Resting (nextCycle s) q w := by
  obtain ⟨hdmg, hfault, hstate, hupos, huseq⟩ := h
  exact ⟨by rwa [nextCycle_cfg], by rwa [nextCycle_cpu], by rwa [nextCycle_cpu], by rwa [nextCycle_cpu],
    by rwa [nextCycle_cpu]⟩

/-- On `DMG` the next cycle of a marked machine is the next tick's head. -/
theorem tickHead_endTick_mark (hdmg : s.cfg.rev = .dmg) (c : Cpu) :
    tickHead (endTick (s.mark c)) = (nextCycle s).mark c := by
  rw [endTick_mark, tickHead_mark, nextCycle, beginTick_dmg]
  exact hdmg

theorem tick_dmg (hdmg : s.cfg.rev = .dmg) : (tick s).1 = endTick (cpuStep (tickHead s)).1 := by
  rw [tick, cpuPart_free (tickHead_stall s hdmg)]

/-- A tick of a marked machine on `DMG`. -/
theorem tick_endTick_mark (hdmg : s.cfg.rev = .dmg) (c : Cpu) :
    (tick (endTick (s.mark c))).1 = endTick (cpuStep ((nextCycle s).mark c)).1 := by
  rw [tick_dmg, tickHead_endTick_mark hdmg]
  exact hdmg

theorem cpuStep_executing (hfault : s.cpu.cpuFault = false) (hstate : s.cpu.cpuState = .executingPrimitiveSequence) :
    (cpuStep s).1 = continueSeq s := by
  simp [cpuStep, idles, hfault, hstate]

theorem cpuStep_servicing (hfault : s.cpu.cpuFault = false) (hstate : s.cpu.cpuState = .servicingInterrupt) :
    (cpuStep s).1 = continueEntry s := by
  simp [cpuStep, idles, hfault, hstate]

theorem cpuStep_fetching (hfault : s.cpu.cpuFault = false) (hstate : s.cpu.cpuState = .fetchingOpcode) :
    (cpuStep s).1 = boundary s := by
  simp [cpuStep, idles, wake, hfault, hstate]

/-- One primitive of an instruction in progress. -/
theorem continueSeq_primitive (hprefix : useqForm s.cpu.useq ≠ .prefixCb)
    (hdrop : (formPrimitives (useqForm s.cpu.useq)).drop s.cpu.upos = m :: rest) :
    continueSeq s = if !rest.isEmpty && !m.stops (m.act s) then
        (m.act s).withCpu { (m.act s).cpu with upos := (m.act s).cpu.upos + 1 }
      else (m.act s).withCpu { (m.act s).cpu with cpuState := .fetchingOpcode, upos := 0 } := by
  unfold continueSeq
  split
  next h => exact absurd h hprefix
  next => rw [hdrop]

/-- Two control states that agree in the sequencer's part. -/
theorem mark_congr {c d : Cpu} (s : State) (hstate : c.cpuState = d.cpuState) (hupos : c.upos = d.upos)
    (huseq : c.useq = d.useq) (hfault : c.cpuFault = d.cpuFault) : s.mark c = s.mark d := by
  unfold State.mark Cpu.mark
  rw [hstate, hupos, huseq, hfault]

/-- A tick that performs the next primitive. -/
theorem tick_at (h : Resting s .fetchingOpcode w) (hprefix : useqForm w ≠ .prefixCb)
    (hdrop : (formPrimitives (useqForm w)).drop k = m :: rest) (hm : PlainMicro m) :
    (tick (endTick (s.at k))).1
      = endTick (if !rest.isEmpty && !m.stops (m.act (nextCycle s)) then (m.act (nextCycle s)).at (k + 1)
          else m.act (nextCycle s)) := by
  have ht : Resting (m.act (nextCycle s)) .fetchingOpcode w := h.nextCycle.plain hm.act
  obtain ⟨hdmg, hfault, hstate, hupos, huseq⟩ := h
  subst huseq
  have hstep : (cpuStep ((nextCycle s).mark (s.cpu.at k))).1 = continueSeq ((nextCycle s).mark (s.cpu.at k)) :=
    cpuStep_executing hfault rfl
  rw [State.at, tick_endTick_mark hdmg, hstep,
    continueSeq_primitive (s := (nextCycle s).mark (s.cpu.at k)) hprefix hdrop, hm.act.mark, hm.stops]
  generalize m.act (nextCycle s) = t at ht ⊢
  congr 1
  split
  · exact mark_congr (c := s.cpu.at (k + 1)) (d := t.cpu.at (k + 1)) t rfl rfl ht.useq.symm
      (hfault.trans ht.fault.symm)
  · exact mark_congr (c := { s.cpu with cpuState := .fetchingOpcode, upos := 0 }) (d := t.cpu) t ht.state.symm ht.upos.symm ht.useq.symm (hfault.trans ht.fault.symm)

/-- The ticks of the primitives left are the run of their sequence. -/
theorem ticks_at (hprefix : useqForm w ≠ .prefixCb) (hplain : AllPlain rest) (hne : rest ≠ [])
    (h : Resting s .fetchingOpcode w) (hdrop : (formPrimitives (useqForm w)).drop k = rest) :
    ticks (runLength rest s) (endTick (s.at k)) = endTick (runRest rest s) := by
  induction rest generalizing s k with
  | nil => exact absurd rfl hne
  | cons m rest ih =>
    obtain ⟨hm, hrest⟩ := List.forall_mem_cons.mp hplain
    have htick := tick_at h hprefix hdrop hm
    have ht : Resting (m.act (nextCycle s)) .fetchingOpcode w := h.nextCycle.plain hm.act
    rw [runLength, runRest]
    cases hstop : m.stops (m.act (nextCycle s)) with
    | true =>
      rw [hstop, Bool.not_true, Bool.and_false] at htick
      exact htick
    | false =>
      rw [hstop, Bool.not_false, Bool.and_true] at htick
      cases rest with
      | nil => exact htick
      | cons m' rest' =>
        have hdrop' : (formPrimitives (useqForm w)).drop (k + 1) = m' :: rest' := by
          rw [← List.drop_drop, hdrop]
          rfl
        have hnext := ih hrest (List.cons_ne_nil _ _) ht hdrop'
        exact (congrArg (ticks (runLength (m' :: rest') _)) htick).trans hnext

theorem advance_true (h : s.cpu.upos = 0) : advance true s = s.at 1 := by
  unfold advance
  rw [if_pos rfl, h]
  rfl

theorem advance_false (h : s.cpu.upos = 0) : advance false s = s := by
  unfold advance
  rw [if_neg Bool.false_ne_true, ← h]
  rfl

theorem enterHalt_upos (s : State) : (enterHalt s).cpu.upos = s.cpu.upos := by
  unfold enterHalt
  split
  · rfl
  · split <;> rfl

theorem enterStop_upos (s : State) : (enterStop s).cpu.upos = s.cpu.upos := by
  unfold enterStop
  dsimp only
  split <;> rfl

/-- A form of one primitive is done in its first cycle. -/
theorem startForm_of_one {g : State → State} (hl : formPrimitives f = [Micro.of g]) (hupos : (g s).cpu.upos = 0) :
    startForm f s = g s := by
  rw [startForm, hl]
  exact advance_false hupos

/-- From the machine cycle in which an instruction starts. -/
theorem ticks_startForm (hprefix : useqForm w ≠ .prefixCb) (h : Resting s .fetchingOpcode w) :
    ticks (restLength (formPrimitives (useqForm w)) s) (endTick (startForm (useqForm w) s))
      = endTick (runSeq (formPrimitives (useqForm w)) s) := by
  by_cases hhalt : useqForm w = .halt
  · rw [hhalt, startForm_of_one rfl ((enterHalt_upos s).trans h.upos)]
    rfl
  by_cases hstop : useqForm w = .stop
  · rw [hstop, startForm_of_one rfl ((enterStop_upos s).trans h.upos)]
    rfl
  have hplain := plain_formPrimitives hhalt hstop
  rw [startForm]
  cases hl : formPrimitives (useqForm w) with
  | nil => rfl
  | cons m rest =>
    rw [hl] at hplain
    obtain ⟨hm, hrest⟩ := List.forall_mem_cons.mp hplain
    have ht : Resting (m.act s) .fetchingOpcode w := h.plain hm.act
    dsimp only
    rw [restLength, runSeq, perform]
    cases hends : m.stops (m.act s) with
    | true =>
      rw [Bool.not_true, Bool.and_false, advance_false ht.upos]
      rfl
    | false =>
      cases rest with
      | nil => exact congrArg endTick (advance_false ht.upos)
      | cons m' rest' =>
        have hdrop : (formPrimitives (useqForm w)).drop 1 = m' :: rest' := by
          rw [hl]
          rfl
        exact (congrArg (fun t => ticks (runLength (m' :: rest') _) (endTick t)) (advance_true ht.upos)).trans
          (ticks_at hprefix hrest (List.cons_ne_nil _ _) ht hdrop)

end progress

/-! ## A step without an interrupt (R144, R145, R150) -/

section instruction
variable {s u : State}

theorem useqForm_first (op : Byte) : useqForm (op.setWidth 9) = formFirst op := by revert op; decide +kernel

theorem useqForm_second (op : Byte) : useqForm (0x100 ||| op.setWidth 9) = formSecond op := by revert op; decide +kernel

theorem resting_fetchOpcode (hdmg : s.cfg.rev = .dmg) (hfault : s.cpu.cpuFault = false)
    (hstate : s.cpu.cpuState = .fetchingOpcode) :
    Resting (fetchOpcode (movePending s)) .fetchingOpcode ((fetchOpcode (movePending s)).cpu.ir.setWidth 9) := by
  rw [movePending_frame]
  exact ⟨hdmg, hfault, hstate, rfl, rfl⟩

/-- The last fetch and what follows it in its cycle. -/
theorem runRest_joinFetch (g : State → State) (body : List Micro) (s : State) :
    runRest (joinFetches [Micro.of g] body) s = runSeq body (g (nextCycle s)) := by
  cases body <;> rfl

/-- The fetches of the immediates are the first primitives of the sequence. -/
theorem runSeq_fetchRest {u : State} (h : formatOf u.cpu.ir ≠ .pre) :
    runSeq (formSeq (formFirst u.cpu.ir)) (fetchRest u).1 = runSeq (formPrimitives (formFirst u.cpu.ir)) u := by
  have hlength := length_formImmediates_formFirst u.cpu.ir
  have hcases := fetchRest_cases u
  generalize fetchRest u = r at hcases ⊢
  unfold formPrimitives
  cases hcases
  case none hf _ =>
    rw [List.eq_nil_of_length_eq_zero (hlength.trans hf)]
  case second hf => exact absurd hf h
  case one hf =>
    obtain hi | hi | hi := formImmediates_cases (formFirst u.cpu.ir) <;> rw [hi] at hlength ⊢
    · exact absurd (hlength.trans hf) (by decide)
    · exact (runRest_joinFetch fetchTemp8 _ u).symm
    · exact absurd (hlength.trans hf) (by decide)
  case two hf =>
    rw [hf] at hlength
    obtain hi | hi | hi := formImmediates_cases (formFirst u.cpu.ir) <;> rw [hi] at hlength ⊢
    · exact absurd hlength (by decide)
    · exact absurd hlength (by decide)
    · exact (runRest_joinFetch fetchTempHigh _ _).symm

/-- What the rest of a first-table fetch decodes. -/
theorem fetchRest_decodeFirst {u : State} (h : formatOf u.cpu.ir ≠ .pre) :
    ∃ b1 b2, (fetchRest u).2 = decodeFirst u.cpu.ir b1 b2 := by
  have hcases := fetchRest_cases u
  generalize fetchRest u = r at hcases ⊢
  cases hcases <;> dsimp only
  case second hf => exact absurd hf h
  all_goals exact ⟨_, _, rfl⟩

theorem formPrimitives_formSecond (op : Byte) : formPrimitives (formSecond op) = formSeq (formSecond op) := by
  unfold formPrimitives
  rw [formImmediates_formSecond]

/-- The meaning of a first-table instruction, from its opcode fetch on. -/
theorem exec_fetchRest {u : State} (h : formatOf u.cpu.ir ≠ .pre) (hundefined : formFirst u.cpu.ir ≠ .undefined) :
    exec (fetchRest u).2 (fetchRest u).1 = .next (runSeq (formPrimitives (formFirst u.cpu.ir)) u) := by
  have hform : (fetchRest u).2.form = formFirst u.cpu.ir := by
    obtain ⟨b1, b2, hi⟩ := fetchRest_decodeFirst h
    rw [hi, form_decodeFirst]
  have hprefix : formFirst u.cpu.ir ≠ .prefixCb :=
    mt (formFirst_eq_prefixCb_iff _).mp fun hir => h ((formatOf_eq_pre_iff _).mpr hir)
  rw [exec_form _ _ (hform ▸ hprefix) (hform ▸ hundefined), operands_fetchRest, hform, runSeq_fetchRest h]

theorem fetchRest_undefined {u : State} (h : formFirst u.cpu.ir = .undefined) : fetchRest u = (u, .undefined u.cpu.ir) := by
  have hi : decodeFirst u.cpu.ir 0 0 = .undefined u.cpu.ir :=
    (decodeFirst_eq_undefined_iff _ _ _).mpr ((formFirst_eq_undefined_iff _).mp h)
  have hnone : formatImmediates (formatOf u.cpu.ir) = 0 := by
    rw [← length_formImmediates_formFirst, h]
    rfl
  have hcases := fetchRest_cases u
  generalize fetchRest u = r at hcases ⊢
  cases hcases
  case none => rw [hi]
  case one hf => exact absurd (hnone.symm.trans hf) (by decide)
  case two hf => exact absurd (hf ▸ hnone) (by decide)
  case second hf =>
    rw [(formatOf_eq_pre_iff _).mp hf] at h
    exact absurd h (by decide)

theorem continueSeq_prefix (h : useqForm s.cpu.useq = .prefixCb) : continueSeq s
    = let t := fetchPrefixed (s.withCpu { s.cpu with cpuState := .fetchingOpcode, upos := 0 })
      startForm (formSecond t.cpu.ir) t := by
  unfold continueSeq
  split
  next => rfl
  next hne => exact absurd h hne

/-- The tick after 0xCB fetches the second opcode and starts its instruction (R144, R300). -/
theorem tick_prefix {w : BitVec 9} (h : Resting u .fetchingOpcode w) (hw : useqForm w = .prefixCb) :
    (tick (endTick (u.at 1))).1
      = endTick (startForm (formSecond (fetchPrefixed (nextCycle u)).cpu.ir) (fetchPrefixed (nextCycle u))) := by
  obtain ⟨hdmg, hfault, hstate, hupos, huseq⟩ := h
  subst huseq
  have hstep : (cpuStep ((nextCycle u).mark (u.cpu.at 1))).1 = continueSeq ((nextCycle u).mark (u.cpu.at 1)) :=
    cpuStep_executing hfault rfl
  have hrest : (nextCycle u).mark { u.cpu with cpuState := .fetchingOpcode, upos := 0 } = nextCycle u := by
    refine (mark_congr (c := { u.cpu with cpuState := .fetchingOpcode, upos := 0 }) (d := u.cpu) _ hstate.symm hupos.symm
      rfl rfl).trans ?_
    rw [← nextCycle_cpu u, mark_self]
  rw [State.at, tick_endTick_mark hdmg, hstep, continueSeq_prefix (s := (nextCycle u).mark (u.cpu.at 1)) hw]
  exact congrArg (fun t => endTick (startForm (formSecond (fetchPrefixed t).cpu.ir) (fetchPrefixed t))) hrest

theorem firstCycle_eq (s : State) : firstCycle s = match formFirst (fetchOpcode s).cpu.ir with
    | .undefined => raiseUnsupported (fetchOpcode s).cpu.ir (fetchOpcode s)
    | .prefixCb => advance true (fetchOpcode s)
    | f => startForm f (fetchOpcode s) := rfl

theorem firstCycle_undefined (h : formFirst (fetchOpcode s).cpu.ir = .undefined) :
    firstCycle s = raiseUnsupported (fetchOpcode s).cpu.ir (fetchOpcode s) := by
  rw [firstCycle_eq, h]

theorem firstCycle_prefix (h : formFirst (fetchOpcode s).cpu.ir = .prefixCb) :
    firstCycle s = advance true (fetchOpcode s) := by
  rw [firstCycle_eq, h]

theorem firstCycle_form (hprefix : formFirst (fetchOpcode s).cpu.ir ≠ .prefixCb)
    (hundefined : formFirst (fetchOpcode s).cpu.ir ≠ .undefined) :
    firstCycle s = startForm (formFirst (fetchOpcode s).cpu.ir) (fetchOpcode s) := by
  rw [firstCycle_eq]
  split
  next h => exact absurd h hundefined
  next h => exact absurd h hprefix
  next => rfl

theorem fetchRest_prefix (h : formatOf u.cpu.ir = .pre) :
    fetchRest u = (fetchPrefixed (nextCycle u), decodeSecond (fetchPrefixed (nextCycle u)).cpu.ir) := by
  simp only [fetchRest, h]

/-- The second fetch leaves the sequencer's part as at a boundary, but for the sequence it selects. -/
theorem Resting.fetchPrefixed {w : BitVec 9} (h : Resting s .fetchingOpcode w) :
    Resting (fetchPrefixed s) .fetchingOpcode (0x100 ||| (fetchPrefixed s).cpu.ir.setWidth 9) :=
  ⟨h.dmg, h.fault, h.state, h.upos, rfl⟩

/-- From its first cycle on, a prefixed instruction is as many ticks as the table says. -/
theorem ticks_prefixed {t : State} {x : Regs} {w : BitVec 9} (h : Resting u .fetchingOpcode w)
    (hw : useqForm w = .prefixCb) (hpre : formatOf u.cpu.ir = .pre) (hx : x.f = u.regs.f)
    (hexec : exec (fetchRest u).2 (fetchRest u).1 = .next t) :
    ∃ n, (fetchRest u).2.form.cycles x = n + 1 ∧ ticks n (endTick (u.at 1)) = endTick t := by
  have htick := tick_prefix h hw
  have hrest := h.nextCycle.fetchPrefixed
  have hflags : x.f = (Machine.fetchPrefixed (nextCycle u)).regs.f :=
    hx.trans (congrArg Regs.f (nextCycle_regs u)).symm
  rw [fetchRest_prefix hpre] at hexec ⊢
  dsimp only at hexec ⊢
  generalize Machine.fetchPrefixed (nextCycle u) = v at *
  rw [exec_decodeSecond] at hexec
  cases hexec
  have hcycles := cycles_eq (f := formSecond v.cpu.ir) v hflags
  rw [isSecond_formSecond] at hcycles
  have hg := useqForm_second v.cpu.ir
  have hprefix : useqForm (0x100 ||| v.cpu.ir.setWidth 9) ≠ .prefixCb := hg ▸ (formSecond_ne _).1
  have hticks := ticks_startForm hprefix hrest
  rw [hg] at hticks
  refine ⟨restLength (formPrimitives (formSecond v.cpu.ir)) v + 1, by rw [form_decodeSecond]; exact hcycles, ?_⟩
  rw [← formPrimitives_formSecond, ← hticks]
  exact congrArg (ticks _) htick

/-- From its first cycle on, an instruction is as many ticks as the table says. -/
theorem ticks_firstCycle {v u t : State} {x : Regs} (hu : u = fetchOpcode v)
    (h : Resting u .fetchingOpcode (u.cpu.ir.setWidth 9)) (hx : x.f = u.regs.f)
    (hexec : exec (fetchRest u).2 (fetchRest u).1 = .next t) :
    ∃ n, (fetchRest u).2.form.cycles x = n + 1 ∧ ticks n (endTick (firstCycle v)) = endTick t := by
  have hw := useqForm_first u.cpu.ir
  by_cases hpre : formatOf u.cpu.ir = .pre
  · have hform : formFirst u.cpu.ir = .prefixCb := (formFirst_eq_prefixCb_iff _).mpr ((formatOf_eq_pre_iff _).mp hpre)
    obtain ⟨n, hn, hticks⟩ := ticks_prefixed h (hw.trans hform) hpre hx hexec
    refine ⟨n, hn, ?_⟩
    rw [← hticks, ← advance_true h.upos]
    subst hu
    rw [firstCycle_prefix hform]
  by_cases hundefined : formFirst u.cpu.ir = .undefined
  · rw [fetchRest_undefined hundefined] at hexec ⊢
    cases hexec
    subst hu
    exact ⟨0, rfl, congrArg endTick (firstCycle_undefined hundefined)⟩
  have hprefix : formFirst u.cpu.ir ≠ .prefixCb :=
    mt (formFirst_eq_prefixCb_iff _).mp fun hir => hpre ((formatOf_eq_pre_iff _).mpr hir)
  rw [exec_fetchRest hpre hundefined] at hexec
  cases hexec
  obtain ⟨b1, b2, hi⟩ := fetchRest_decodeFirst hpre
  have hcycles := cycles_eq (f := formFirst u.cpu.ir) u hx
  have hticks := ticks_startForm (hw ▸ hprefix) h
  rw [isSecond_formFirst] at hcycles
  rw [hw] at hticks
  refine ⟨_, by rw [hi, form_decodeFirst]; exact hcycles, ?_⟩
  subst hu
  rw [firstCycle_form hprefix hundefined]
  exact hticks

end instruction

/-! ## An interrupt entry (R153, R320) -/

section entry
variable {s : State} {m : Micro} {l rest : List Micro} {k : Nat} {w : BitVec 9}

/-- One primitive of an entry in progress. -/
theorem continueEntry_primitive (hdrop : (irqSeq s.cfg.irqEntryCycles).drop s.cpu.upos = m :: rest) :
    continueEntry s = if rest.isEmpty then (m.act s).withCpu { (m.act s).cpu with upos := 0 }
      else (m.act s).withCpu { (m.act s).cpu with upos := (m.act s).cpu.upos + 1 } := by
  unfold continueEntry
  rw [hdrop]

/-- The control state in an interrupt entry, `k` cycles of it done. -/
def Cpu.entering (c : Cpu) (k : Nat) : Cpu := { c with upos := k }

theorem tick_entering (h : Resting s .servicingInterrupt w) (k : Nat) :
    (tick (endTick (s.mark (s.cpu.entering k)))).1 = endTick (continueEntry ((nextCycle s).mark (s.cpu.entering k))) := by
  rw [tick_endTick_mark h.dmg]
  exact congrArg endTick (cpuStep_servicing h.fault h.state)

/-- The last cycle ends the entry (R320). -/
theorem tick_entering_last (h : Resting s .servicingInterrupt w)
    (hdrop : (irqSeq s.cfg.irqEntryCycles).drop k = [Micro.of irqJump]) :
    (tick (endTick (s.mark (s.cpu.entering k)))).1 = endTick (irqJump (nextCycle s)) := by
  have hend : continueEntry ((nextCycle s).mark (s.cpu.entering k))
      = (irqJump (nextCycle s)).mark { s.cpu with cpuState := .fetchingOpcode, upos := 0 } :=
    continueEntry_primitive (s := (nextCycle s).mark (s.cpu.entering k)) (m := Micro.of irqJump) (rest := [])
      (by rwa [← nextCycle_cfg s] at hdrop)
  obtain ⟨-, hfault, -, hupos, huseq⟩ := h.nextCycle
  rw [tick_entering h, hend]
  exact congrArg endTick (mark_congr (c := { s.cpu with cpuState := .fetchingOpcode, upos := 0 })
    (d := (irqJump (nextCycle s)).cpu) _ rfl hupos.symm (h.useq.trans huseq.symm) (h.fault.trans hfault.symm))

/-- Each cycle before it performs one primitive. -/
theorem tick_entering_next (h : Resting s .servicingInterrupt w) (hm : PlainMicro m) (hne : rest ≠ [])
    (hdrop : (irqSeq s.cfg.irqEntryCycles).drop k = m :: rest) :
    (tick (endTick (s.mark (s.cpu.entering k)))).1
      = endTick ((m.act (nextCycle s)).mark ((m.act (nextCycle s)).cpu.entering (k + 1))) := by
  have hgo : continueEntry ((nextCycle s).mark (s.cpu.entering k))
      = (m.act (nextCycle s)).mark (s.cpu.entering (k + 1)) := by
    rw [continueEntry_primitive (s := (nextCycle s).mark (s.cpu.entering k)) (by rwa [← nextCycle_cfg s] at hdrop),
      if_neg (by rwa [List.isEmpty_iff]), hm.act.mark]
    rfl
  have ht : Resting (m.act (nextCycle s)) .servicingInterrupt w := h.nextCycle.plain hm.act
  rw [tick_entering h, hgo]
  exact congrArg endTick (mark_congr (c := s.cpu.entering (k + 1)) (d := (m.act (nextCycle s)).cpu.entering (k + 1)) _
    (h.state.trans ht.state.symm) rfl (h.useq.trans ht.useq.symm) (h.fault.trans ht.fault.symm))

/-- The ticks of the cycles left are the run of their sequence. -/
theorem ticks_entering (hplain : AllPlain l) (hgo : ∀ m ∈ l, ∀ s, m.stops s = false)
    (h : Resting s .servicingInterrupt w)
    (hdrop : (irqSeq s.cfg.irqEntryCycles).drop k = l ++ [Micro.of irqJump]) :
    ticks (l.length + 1) (endTick (s.mark (s.cpu.entering k))) = endTick (runRest (l ++ [Micro.of irqJump]) s) := by
  induction l generalizing s k with
  | nil => exact tick_entering_last h hdrop
  | cons m l ih =>
    obtain ⟨hm, hrest⟩ := List.forall_mem_cons.mp hplain
    obtain ⟨hstop, hgo⟩ := List.forall_mem_cons.mp hgo
    have hcfg : (m.act (nextCycle s)).cfg = s.cfg := (hm.act.cfg _).trans (nextCycle_cfg s)
    have hdrop' : (irqSeq (m.act (nextCycle s)).cfg.irqEntryCycles).drop (k + 1) = l ++ [Micro.of irqJump] := by
      rw [hcfg, ← List.drop_drop, hdrop]
      rfl
    have htick := tick_entering_next h hm (by simp) hdrop
    have hnext := ih hrest hgo (h.nextCycle.plain hm.act) hdrop'
    rw [List.cons_append, runRest, hstop, if_neg Bool.false_ne_true, ← hnext]
    exact congrArg (ticks (l.length + 1)) htick

/-- The cycles of an entry between the selection and the jump (R320). -/
def entryMiddle (n : Nat) : List Micro :=
  List.replicate (n - 4) Micro.idle ++ [Micro.of pushPcHigh, Micro.of pushPcLow]

theorem irqSeq_eq (n : Nat) : irqSeq n = Micro.of irqSelect :: (entryMiddle n ++ [Micro.of irqJump]) := by
  rw [irqSeq, entryMiddle, List.append_assoc]
  rfl

theorem plain_entryMiddle (n : Nat) : AllPlain (entryMiddle n) := by
  have hidle : AllPlain (List.replicate (n - 4) Micro.idle) := fun m hm => by
    rw [List.eq_of_mem_replicate hm]
    exact ⟨plain_id, fun _ _ => rfl⟩
  exact hidle.append (.cons (plain_pushByte fun _ _ => rfl) (.one (plain_pushByte fun _ _ => rfl)))

theorem entryMiddle_goes_on (n : Nat) : ∀ m ∈ entryMiddle n, ∀ s, m.stops s = false := by
  intro m hm s
  obtain hm | hm := List.mem_append.mp hm
  · rw [List.eq_of_mem_replicate hm]
    rfl
  · obtain rfl | rfl := List.mem_pair.mp hm <;> rfl

theorem length_entryMiddle (n : Nat) : (entryMiddle n).length + 2 = max 4 n := by
  rw [← irqSeq_length, irqSeq_eq]
  simp

/-- From the boundary that accepts it on, an interrupt entry is `IRQ_ENTRY_CYCLES` ticks, four at the least. -/
theorem ticks_takeInterrupt (hdmg : s.cfg.rev = .dmg) (hfault : s.cpu.cpuFault = false) (hacc : accepts s = true) :
    ticks ((entryMiddle s.cfg.irqEntryCycles).length + 1) (endTick (boundary s)) = endTick (takeInterrupt s) := by
  have hboundary : boundary s = (irqSelect s).mark ((irqSelect s).cpu.entering 1) := if_pos hacc
  have h : Resting (irqSelect s) .servicingInterrupt s.cpu.useq := ⟨hdmg, hfault, rfl, rfl, rfl⟩
  rw [hboundary, takeInterrupt, irqSeq_eq, runSeq_of]
  exact ticks_entering (plain_entryMiddle _) (entryMiddle_goes_on _) h (by
    show (irqSeq s.cfg.irqEntryCycles).drop 1 = _
    rw [irqSeq_eq]
    rfl)

end entry

/-- Settles O8: on `DMG` the head of the first tick is where the step begins, and from its boundary on the ticks perform
the primitives that the step runs. -/
theorem stepIsItsTicks : Obligations.StepIsItsTicks := by
  intro s t hdmg hfault hstate hstep
  have hboundary : (tick s).1 = endTick (boundary (beginTick s)) := by
    rw [tick_dmg hdmg, beginTick_dmg s hdmg, cpuStep_fetching (by rwa [tickHead_cpu]) (by rwa [tickHead_cpu])]
  have hdmg' : (beginTick s).cfg.rev = .dmg := by rwa [beginTick_cfg]
  have hfault' : (beginTick s).cpu.cpuFault = false := by rwa [beginTick_cpu]
  have hstate' : (beginTick s).cpu.cpuState = .fetchingOpcode := by rwa [beginTick_cpu]
  rw [step_fetching hfault hstate] at hstep
  unfold stepCycles
  cases hacc : accepts (beginTick s) with
  | true =>
    rw [runBoundary_of_accepts hacc] at hstep
    cases hstep
    have hticks := ticks_takeInterrupt hdmg' hfault' hacc
    rw [beginTick_cfg] at hticks
    rw [← hticks, if_pos rfl, ← length_entryMiddle]
    exact congrArg (ticks _) hboundary.symm
  | false =>
    rw [runBoundary_of_not_accepts hacc] at hstep
    obtain ⟨u, hexec, rfl⟩ := finishTick_eq_next hstep
    have hflags : s.regs.f = (fetchOpcode (movePending (beginTick s))).regs.f := by
      rw [movePending_frame]
      exact (congrArg Regs.f (beginTick_regs s)).symm
    obtain ⟨n, hn, hticks⟩ := ticks_firstCycle rfl (resting_fetchOpcode hdmg' hfault' hstate') hflags hexec
    have hplain : boundary (beginTick s) = firstCycle (movePending (beginTick s)) := if_neg (by rw [hacc]; decide)
    rw [if_neg Bool.false_ne_true, fetchInstr, hn, ← hticks, ← hplain]
    exact congrArg (ticks n) hboundary.symm

end Sys2Proof.Machine
